-- ==== Sys2Proof/Word.lean ====
section
/-! DEFINITION. The words of the part: bytes, 32-bit words, instant numbers and the numbers that name its blocks. -/

namespace Sys2Proof

/-- A byte of a link unit (R170). -/
abbrev Byte := BitVec 8

/-- A word is 32 bits (00_scope, "Words, lengths and counts"). -/
abbrev Word := BitVec 32

/-- An instant number, 32 bits, compared by serial arithmetic (R1). -/
abbrev Instant := BitVec 32

/-- A value of the free-running time count, in microseconds modulo 2^32 (00_scope, "Time"). -/
abbrev Time := BitVec 32

/-- The number of a committed bank; all generation arithmetic is modulo 2^16 (R39). -/
abbrev Generation := BitVec 16

/-- The 16-bit CRC of a unit (R171). -/
abbrev Crc := BitVec 16

/-- A node port NP0..NP15. -/
abbrev NodeId := Fin 16

/-- A trunk port TP0, TP1. -/
abbrev TrunkId := Fin 2

/-- A merge group 0, 1.  Group 0 transmits on TP0 and group 1 on TP1, so a group and its trunk port share a number. -/
abbrev GroupId := Fin 2

/-- A stream 0..63 of the stream table. -/
abbrev StreamId := Fin 64

/-- A cell of the cell pool (R61). -/
abbrev CellId := Fin 1024

/-- A row of the row pool (R59). -/
abbrev RowId := Fin 96

end Sys2Proof
end

