-- ==== Sys2Proof/Syntax.lean ====
section
/-! DEFINITION. The commands of the part: one constructor of `Instr` for each row of spec/opcode_table.json, in the table's
order.  A row that names a line event carries the port and what the line carried; a row that names an internal event carries
what picks it out; a row that names a request carries nothing, since the engine reads the request from its queue (R139). -/

namespace Sys2Proof

/-- One symbol of a line (R170): a data byte, one of the four control symbols, or a symbol the receiver cannot decode. -/
inductive LineSymbol where
  | data (b : Byte)
  | start
  | stop
  | abort
  | idle
  | undecodable
  deriving DecidableEq, Repr

/-- What ends a truncated unit (R8): an abort delimiter, or a start delimiter that begins a new unit. -/
inductive Truncation where
  | byAbort
  | byStart
  deriving DecidableEq, Repr

/-- The commands, one for each row of spec/opcode_table.json. -/
inductive Instr where
  | powerOnReset
  | powerOnResetRelease
  | pinReset
  | pinResetRelease
  | nodeSignalPresent (p : NodeId)
  | nodeSignalLoss (p : NodeId)
  | nodeIdleSequence (p : NodeId)
  | nodeUnitEnd (p : NodeId) (symbols : List LineSymbol)
  | nodeTruncatedUnit (p : NodeId) (ending : Truncation)
  | intakeTaking
  | forcedAdvance
  | rowDeadlineExpiry (g : GroupId) (n : Instant)
  | closeAttempt (g : GroupId)
  | trunkSignalPresent (p : TrunkId)
  | trunkSignalLoss (p : TrunkId)
  | trunkIdleSequence (p : TrunkId)
  | trunkUnitEnd (p : TrunkId) (symbols : List LineSymbol)
  | trunkTruncatedUnit (p : TrunkId) (ending : Truncation)
  | starveTimerExpiry (p : TrunkId)
  | markTimerExpiry (p : TrunkId)
  | frameTransmissionEnd (p : TrunkId)
  | markTransmissionEnd (p : TrunkId)
  | replyTransmissionEnd (p : TrunkId)
  | ping
  | readStream
  | writeStream
  | templateLoad
  | templateCopy
  | templateRead
  | templateCommit
  | templateCancel
  | groupSet
  | groupStart
  | groupStop
  | groupAbort
  | groupStatus
  | rowList
  | portStatus
  | portSet
  | trunkSet
  | readCounters
  | faultRead
  | faultTake
  | faultMaskRead
  | faultMaskWrite
  | reset
  | undefinedRequest
  | nodeStraySymbol (p : NodeId) (symbols : List LineSymbol)
  | trunkStraySymbol (p : TrunkId) (symbols : List LineSymbol)
  deriving DecidableEq, Repr

end Sys2Proof
end

