-- ==== Sys2Proof/Decode.lean ====
section
/-! DEFINITION. The command that a word spells by the table's bits.  No row of spec/opcode_table.json gives bits (its "fields"
lists are empty and no row has "fixed"): a command of this part is an event at a pin, on a line or inside the part, not a
word.  The words that the part itself reads, the units on its lines, are decoded in Machine/Operands.lean. -/

namespace Sys2Proof

/-- No row of the table gives bits, so no word spells a command. -/
def decodeTableWord (_nbits _w : Nat) : Option Instr := none

end Sys2Proof
end

