-- ==== Sys2Proof/Config.lean ====
section
/-! DEFINITION. What the manual leaves open and a run must still decide: the free values. -/

namespace Sys2Proof.Config

/-- FREE VALUE (log entry 1).  A leaving of UP that also loses a merged frame logs TRUNK_DOWN and FRAME_LOST, and "Either
logging may be taken first by the fault log" (R164).  `trunkDownFirst k` is the order taken at the `k`-th such leaving; it has
no body, so no proof can lean on either order. -/
opaque trunkDownFirst : Nat → Bool

/-- FREE VALUE (log entry 5).  "Steps of different streams in one record touch different entries and need no order" (R91), but the
faults they log stand in the fault log in some order.  The `k`-th record steps the monitors of its entries in rising
`monitorRank k slot`, so that every order is possible and none can be leaned on. -/
opaque monitorRank : Nat → Nat → Nat

/-- FREE VALUE (log entry 22).  A unit is cut by "ABORT in place of its remaining bytes and END" (R170); how many of its bytes the line
has carried by then is a matter of link timing that the manual does not give.  `bytesBeforeCut k port` is that count at the `k`-th
draw, for the transmitter of that port. -/
opaque bytesBeforeCut : Nat → Nat → Nat

/-- FREE VALUE (log entry 21).  A message is stored with the words it carries, judged by the payload length of its taking (R20); where
the stream's length has risen while the message waited for a forced advance, the manual states no value for the words beyond them.
`missingWord k i` is the `i`-th of them at the `k`-th draw. -/
opaque missingWord : Nat → Nat → BitVec 32

end Sys2Proof.Config
end

