-- ==== Sys2Proof/Machine/State.lean ====
section
/-! DEFINITION. The state of the part, as plain data: every register, queue, pool, counter, timer and pin the manual names,
each under the rule that names it, and `State.reset`, the part right after power-on reset. -/

namespace Sys2Proof.Machine

/-! ### Node ports and trunk ports -/

/-- Link state of a node or trunk port (R2, R117). -/
inductive Link where
  | down
  | aligning
  | up
  deriving DecidableEq, Repr

/-- The seven counters of a node port, in the order of R15. -/
inductive PortCounter where
  | messagesGood | checkErrors | malformed | fifoOverflow | flushed | unknownStream | misrouted
  deriving DecidableEq, Repr

/-- The twelve counters of a stream, in the order of R37. -/
inductive StreamCounter where
  | accepted | duplicate | duplicateReplaced | lengthDiscards | unboundDiscards | stoppedDiscards
  | notInGeneration | offCadence | lateDiscards | earlyDiscards | drainingDiscards | fillEntries
  deriving DecidableEq, Repr

/-- The twelve counters of a group, in the order of R115. -/
inductive GroupCounter where
  | framesComplete | framesExpired | framesForced | framesEmpty | skipped | resyncs
  | rowExhausted | cellExhausted | aborts | framesLostOnLink | earlyDiscards | lateDiscards
  deriving DecidableEq, Repr

/-- The six counters of a trunk port, in the order of R135. -/
inductive TrunkCounter where
  | framesSent | marksSent | repliesSent | checkErrorsIn | requestsDropped | creditExcess
  deriving DecidableEq, Repr

/-- A good SAMPLE message as the ingress FIFO keeps it (R11): without delimiters and CRC. -/
structure SampleMsg where
  stream : StreamId
  lengthField : Nat
  instant : Instant
  payload : List Word
  deriving DecidableEq, Repr

/-- A node port (R2).  `line` is the input pin NPn_RX: whether it carries signal now; `present` is the receiver's record. -/
structure NodePort where
  line : Bool
  link : Link
  enabled : Bool
  aligningRun : Nat
  failureRun : Nat
  present : Bool
  fifo : List SampleMsg
  episodeOpen : Bool
  reception : Option (List LineSymbol)
  counters : Vector Nat 7
  deriving DecidableEq, Repr

/-! ### The stream table -/

/-- Fill policy (R21), coded ZERO 0, HOLD 1, CONSTANT 2 (R33). -/
inductive FillPolicy where
  | zero
  | hold
  | constant
  deriving DecidableEq, Repr

/-- Duplicate policy (R21), coded KEEP_FIRST 0, KEEP_LAST 1 (R33). -/
inductive DupPolicy where
  | keepFirst
  | keepLast
  deriving DecidableEq, Repr

/-- Stream state (R19), coded UNBOUND 0, WAITING 1, LIVE 2, LOST 3 (R175). -/
inductive StreamState where
  | unbound
  | waiting
  | live
  | lost
  deriving DecidableEq, Repr

/-- A stream table entry (R19).  `holdStore` is `none` when its valid flag is clear (R29). -/
structure Stream where
  enabled : Bool
  port : NodeId
  length : Nat
  offset : Int
  fillPolicy : FillPolicy
  fillConstant : Word
  dupPolicy : DupPolicy
  threshold : Nat
  group : Option GroupId
  state : StreamState
  fillRun : Nat
  holdStore : Option (List Word)
  refs : Nat
  counters : Vector Nat 12
  deriving DecidableEq, Repr

/-! ### Templates -/

/-- A slot descriptor (R40). -/
structure Slot where
  stream : StreamId
  cadence : Nat
  phase : Nat
  deriving DecidableEq, Repr

/-- The two banks of a group (R38). -/
inductive BankLetter where
  | bankA
  | bankB
  deriving DecidableEq, Repr

/-- What an ARMED bank holds beside its list: its generation and the switch instant S (R38). -/
structure Armed where
  generation : Generation
  switchAt : Instant
  deriving DecidableEq, Repr

/-- The template store of a group (R38).  "At every moment exactly one bank of a group is ACTIVE. The other bank is IDLE or
ARMED": the shape says so.  `activeBank` is the letter of the ACTIVE bank; the other bank is ARMED when `armed` is present. -/
structure Templates where
  activeBank : BankLetter
  activeSlots : List Slot
  activeGen : Generation
  otherSlots : List Slot
  armed : Option Armed
  deriving DecidableEq, Repr

/-! ### Windows, rows, frame records and groups -/

/-- An open row (R60).  `slotMap` has one place for each slot index of its generation's list. -/
structure Row where
  rowId : RowId
  instant : Instant
  generation : Generation
  deadline : Time
  expired : Bool
  slotMap : List (Option CellId)
  deriving DecidableEq, Repr

/-- Close reason (R87), coded COMPLETE 0, EXPIRED 1, FORCED 2, EMPTY 3 (R175). -/
inductive CloseReason where
  | complete
  | expired
  | forced
  | empty
  deriving DecidableEq, Repr

/-- Fill kind (R89). -/
inductive FillKind where
  | zero
  | const
  | hold
  deriving DecidableEq, Repr

/-- What stands in an entry of a frame record: a cell, or a fill of one kind (R88). -/
inductive Content where
  | real (cell : CellId)
  | fill (kind : FillKind)
  deriving DecidableEq, Repr

/-- An entry of a frame record (R88): slot index, stream, content. -/
structure Entry where
  slot : Nat
  stream : StreamId
  content : Content
  deriving DecidableEq, Repr

/-- A frame record (R90).  Its group is the group whose queue holds it; its due count and fill set are read from `entries`. -/
structure FrameRecord where
  instant : Instant
  generation : Generation
  reason : CloseReason
  entries : List Entry
  holdMiss : Bool
  inTransmission : Bool
  deriving DecidableEq, Repr

/-- Group state as R116 codes it; `stopped` is STOPPED without the aborting condition, `aborting` is STOPPED with it (R101). -/
inductive GroupState where
  | stopped
  | aborting
  | running
  | draining
  deriving DecidableEq, Repr

/-- Early policy (R102), coded DISCARD 0, ADVANCE 1 (R103). -/
inductive EarlyPolicy where
  | discard
  | advance
  deriving DecidableEq, Repr

/-- Empty policy (R102), coded SKIP 0, EMIT 1 (R103). -/
inductive EmptyPolicy where
  | skip
  | emit
  deriving DecidableEq, Repr

/-- A merge group: state (R101), parameters (R102), window (R56), template store (R38), frame queue (R96), counters (R115),
and the close attempts handed to its close unit and not yet taken (R81). -/
structure Group where
  state : GroupState
  depth : Nat
  holdTime : Nat
  early : EarlyPolicy
  empty : EmptyPolicy
  cursor : Option Instant
  rows : List Row
  lateRun : Nat
  lateLogged : Bool
  templates : Templates
  queue : List FrameRecord
  attempts : Nat
  counters : Vector Nat 12
  deriving DecidableEq, Repr

/-! ### Trunk ports and management -/

/-- Which unit a transmitter sends (R129). -/
inductive TxKind where
  | mark
  | reply
  | frame
  deriving DecidableEq, Repr

/-- The unit in transmission: its kind and its bytes, from the header to the CRC, fixed at its start (R127, R131, R171, R173). -/
structure TxUnit where
  kind : TxKind
  bytes : List Byte
  deriving DecidableEq, Repr

/-- A management request (08, "A request carries four named contents"); the argument count is the length of `args` (R174). -/
structure Request where
  tag : Byte
  name : Byte
  args : List Word
  deriving DecidableEq, Repr

/-- Status codes, in the order of R175. -/
inductive Status where
  | ok | badOpcode | badArgument | badLength | state | inUse | locked | tooSoon | noTemplate | conflict
  deriving DecidableEq, Repr

/-- A reply (R140). -/
structure Reply where
  tag : Byte
  name : Byte
  status : Status
  results : List Word
  deriving DecidableEq, Repr

/-- A trunk port (R117) with its request and reply queues (R136).  `line` is the input pin TPn_RX; `tx` is the unit on TPn_TX,
`none` while the line carries idle sequences (R170); `lastClosed` is what the line carried of the last unit that the transmitter closed,
from its START to the idle sequence behind it (log entry 10). -/
structure Trunk where
  line : Bool
  link : Link
  aligningRun : Nat
  failureRun : Nat
  credit : Nat
  markInterval : Nat
  markTimer : Option Time
  markDebt : Nat
  markSequence : BitVec 16
  starveLimit : Nat
  starveTimer : Option Time
  starveLogged : Bool
  tx : Option TxUnit
  lastClosed : List LineSymbol
  requests : List Request
  replies : List Reply
  reception : Option (List LineSymbol)
  counters : Vector Nat 6
  deriving DecidableEq, Repr

/-! ### The fault log -/

/-- The twelve fault kinds, numbered from 0 in this order (R163). -/
inductive FaultKind where
  | portAlignLost | portFifoOverflow | rowExhausted | cellExhausted | streamLost | streamRecovered
  | resync | lateRun | markOverrun | creditStarved | trunkDown | frameLost
  deriving DecidableEq, Repr

/-- The port of a fault record: a node port or a trunk port (R158). -/
inductive PortName where
  | node (p : NodeId)
  | trunk (p : TrunkId)
  deriving DecidableEq, Repr

/-- What a block hands the fault log: a kind and the subject fields the kind carries (09, section 9.2). -/
structure Logging where
  kind : FaultKind
  group : Option GroupId
  stream : Option StreamId
  port : Option PortName
  instant : Option Instant
  deriving DecidableEq, Repr

/-- A fault record (R158). -/
structure FaultRecord where
  sequence : BitVec 16
  what : Logging
  time : Time
  repeats : Nat
  deriving DecidableEq, Repr

/-- The fault log (R157); records oldest first. -/
structure FaultLog where
  records : List FaultRecord
  nextSequence : BitVec 16
  overflowCount : Nat
  overflowFlag : Bool
  deriving DecidableEq, Repr

/-! ### The part -/

/-- Last reset cause (R152). -/
inductive ResetCause where
  | power
  | pin
  | soft
  deriving DecidableEq, Repr

/-- Whether a reset pin holds the part (R153). -/
inductive ResetHold where
  | none
  | power
  | pin
  deriving DecidableEq, Repr

/-- The message the intake holds while it waits for the close unit to take or decline a forced advance (R63, R71). -/
structure WaitingMsg where
  port : NodeId
  msg : SampleMsg
  group : GroupId
  instant : Instant
  deriving DecidableEq, Repr

/-- The whole part. -/
structure State where
  /-- The commands that are waiting, first in, first out: the model's own field. -/
  pending : List Instr
  /-- Which reset pin holds the part (R153). -/
  hold : ResetHold
  /-- The level of the pin RESET_N: true while it is driven low. -/
  resetNLow : Bool
  /-- The free-running time count in microseconds. -/
  time : Time
  /-- NP0..NP15 (R2). -/
  nodes : Vector NodePort 16
  /-- The intake arbiter's last-served port (R16). -/
  lastNode : NodeId
  /-- The intake: `none` when free; busy while it waits on a forced advance (R16, R63). -/
  intake : Option WaitingMsg
  /-- The stream table (R19). -/
  streams : Vector Stream 64
  /-- The merge groups. -/
  groups : Vector Group 2
  /-- The row free list, head first (R59). -/
  freeRows : List RowId
  /-- The 1,024 cells of 8 words (R61). -/
  cells : Vector (Vector Word 8) 1024
  /-- The cell free list, head first (R61). -/
  freeCells : List CellId
  /-- TP0, TP1 (R117). -/
  trunks : Vector Trunk 2
  /-- The engine's last-served port (R136). -/
  lastTrunk : TrunkId
  /-- The pending soft reset and the port of its RESET reply (R136). -/
  softPending : Option TrunkId
  /-- The fault log (R157). -/
  log : FaultLog
  /-- The alert mask: bit n masks fault kind n, bit 12 masks overflow (R165). -/
  alertMask : BitVec 13
  /-- Last reset cause (R152). -/
  cause : ResetCause
  /-- Soft reset count (R152). -/
  softCount : Nat
  /-- How many free values have been drawn: the model's own field (log entries 1, 5, 21 and 22). -/
  draws : Nat
  deriving DecidableEq, Repr

/-! ### Outcomes other than a next state -/

/-- No command of this part stops it with a fault: the manual gives every command an effect, and reports what went wrong in the
fault log, which is part of the state.  The one constructor is raised by no meaning. -/
inductive Fault where
  /-- Raised by nobody.  It only keeps the type from being empty; safe. -/
  | neverRaised
  deriving DecidableEq, Repr

/-- Why a command has no meaning. -/
inductive Refusal where
  /-- Raised by `exec`'s arm of a row that has no meaning yet; no arm is left that raises it.  Safe. -/
  | notModelled (mnemonic : String)
  deriving DecidableEq, Repr

/-! ### Initial values -/

/-- A node port after power-on and pin reset, its line without signal (R2). -/
def NodePort.initial : NodePort :=
  { line := false, link := .down, enabled := true, aligningRun := 0, failureRun := 0, present := false, fifo := [],
    episodeOpen := false, reception := none, counters := Vector.replicate 7 0 }

/-- A stream entry after power-on and pin reset (R19). -/
def Stream.initial : Stream :=
  { enabled := false, port := 0, length := 1, offset := 0, fillPolicy := .zero, fillConstant := 0, dupPolicy := .keepFirst,
    threshold := 8, group := none, state := .unbound, fillRun := 0, holdStore := none, refs := 0,
    counters := Vector.replicate 12 0 }

/-- The template store after power-on and pin reset (R38). -/
def Templates.initial : Templates :=
  { activeBank := .bankA, activeSlots := [], activeGen := 0, otherSlots := [], armed := none }

/-- A group after power-on and pin reset (R56, R96, R101, R102). -/
def Group.initial : Group :=
  { state := .stopped, depth := 16, holdTime := 2000, early := .discard, empty := .skip, cursor := none, rows := [],
    lateRun := 0, lateLogged := false, templates := Templates.initial, queue := [], attempts := 0,
    counters := Vector.replicate 12 0 }

/-- A trunk port after power-on and pin reset, its line without signal (R117, R136).  MODEL'S CHOICE (log entry 25): R117's table names no
unit in reception; each reset drops it uncounted, as R2 says for a node port. -/
def Trunk.initial : Trunk :=
  { line := false, link := .down, aligningRun := 0, failureRun := 0, credit := 0, markInterval := 1000, markTimer := none,
    markDebt := 0, markSequence := 0, starveLimit := 0, starveTimer := none, starveLogged := false, tx := none,
    lastClosed := [], requests := [], replies := [], reception := none, counters := Vector.replicate 6 0 }

/-- The fault log after power-on reset (R157). -/
def FaultLog.initial : FaultLog :=
  { records := [], nextSequence := 0, overflowCount := 0, overflowFlag := false }

/-- The alert mask after power-on reset: STREAM_RECOVERED (5) and RESYNC (6) masked (R165). -/
def alertMaskDefault : BitVec 13 := 0x60#13

/-- The part right after power-on reset, PORn and RESET_N released and no line carrying signal. -/
def State.reset : State :=
  { pending := [], hold := .none, resetNLow := false, time := 0, nodes := Vector.replicate 16 NodePort.initial, lastNode := 15,
    intake := none, streams := Vector.replicate 64 Stream.initial, groups := Vector.replicate 2 Group.initial,
    freeRows := List.finRange 96, cells := Vector.replicate 1024 (Vector.replicate 8 0), freeCells := List.finRange 1024,
    trunks := Vector.replicate 2 Trunk.initial, lastTrunk := 1, softPending := none, log := FaultLog.initial,
    alertMask := alertMaskDefault, cause := .power, softCount := 0, draws := 0 }

end Sys2Proof.Machine
end

