-- ==== Sys2Proof/Machine/Operands.lean ====
section
/-! DEFINITION. What a command's operands say: serial arithmetic on instants (R1), bytes, words and the CRC of a unit
(R170, R171), the units a port reads (R172, R174), the numbers named values travel as (R163, R175), and the layouts of the
words the part sends (R173). -/

namespace Sys2Proof.Machine

/-! ### Serial arithmetic (R1) -/

/-- `a` is before `b` when (b − a) mod 2^32 lies in 1..2^31 − 1. -/
def before (a b : Instant) : Bool :=
  decide (1 ≤ (b - a).toNat ∧ (b - a).toNat ≤ 2147483647)

/-- "a ≥ b": `a` is `b` or after `b`. -/
def atOrAfter (a b : Instant) : Bool :=
  a == b || before b a

/-- (b − a) mod 2^32: how far `b` lies beyond `a`. -/
def distance (a b : Instant) : Nat := (b - a).toNat

/-! ### Words and bytes -/

/-- A word from its four bytes, byte 0 in bits 31..24 (R170). -/
def wordOfBytes (b0 b1 b2 b3 : Byte) : Word := (b0 ++ b1 ++ b2 ++ b3 : BitVec 32)

/-- A word from four numbers, one for each byte of the layouts of R173. -/
def word4 (n0 n1 n2 n3 : Nat) : Word :=
  wordOfBytes (BitVec.ofNat 8 n0) (BitVec.ofNat 8 n1) (BitVec.ofNat 8 n2) (BitVec.ofNat 8 n3)

/-- A word from two 16-bit halves, bits 31..16 first (R173). -/
def word2 (hi lo : BitVec 16) : Word := (hi ++ lo : BitVec 32)

/-- The four bytes of a word, most significant first (R170). -/
def bytesOfWord (w : Word) : List Byte :=
  [w.extractLsb' 24 8, w.extractLsb' 16 8, w.extractLsb' 8 8, w.extractLsb' 0 8]

/-- The words of a byte string; a remainder shorter than a word is left out. -/
def wordsOfBytes : List Byte → List Word
  | b0 :: b1 :: b2 :: b3 :: rest => wordOfBytes b0 b1 b2 b3 :: wordsOfBytes rest
  | _ => []

/-- A number as a word of a reply (R173). -/
def natWord (n : Nat) : Word := BitVec.ofNat 32 n

/-- A yes/no or flag value: 0 for no or clear, 1 for yes or set (R175). -/
def flagWord (b : Bool) : Word := if b then 1 else 0

/-- A result present only in some cases: a presence word, and the words only when it is 1 (R173). -/
def optionalWords (x : Option (List Word)) : List Word :=
  match x with
  | none => [0]
  | some ws => 1 :: ws

/-! ### The CRC (R171) -/

/-- One bit of the division by x^16 + x^12 + x^5 + 1. -/
def crcBit (c : Crc) : Crc :=
  if c.msb then (c <<< 1) ^^^ 0x1021#16 else c <<< 1

/-- One byte, most significant bit first. -/
def crcByte (c : Crc) (b : Byte) : Crc :=
  crcBit (crcBit (crcBit (crcBit (crcBit (crcBit (crcBit (crcBit (c ^^^ (b ++ (0#8) : BitVec 16)))))))))

/-- The CRC of a byte string: initial value all ones, no reflection, no final inversion. -/
def crc16 (bytes : List Byte) : Crc := bytes.foldl crcByte 0xFFFF#16

/-- The bytes of a unit before its CRC, and the CRC it carries in its last two bytes, most significant first. -/
def splitCrc (bytes : List Byte) : List Byte × Crc :=
  (bytes.take (bytes.length - 2),
    match bytes.drop (bytes.length - 2) with
    | [hi, lo] => (hi ++ lo : BitVec 16)
    | _ => 0)

/-- The bytes of a unit as sent: its words, then its CRC (R170, R171). -/
def unitBytes (words : List Word) : List Byte :=
  let body := words.flatMap bytesOfWord
  let c := crc16 body
  body ++ [c.extractLsb' 8 8, c.extractLsb' 0 8]

/-! ### Received units (R170) -/

/-- The byte a receiver keeps for a symbol inside a unit: a symbol it cannot decode, and an IDLE, is "kept as a byte of value 0". -/
def symbolByte : LineSymbol → Byte
  | .data b => b
  | _ => 0

/-- Whether a symbol inside a unit "marks the unit as failing its CRC check". -/
def symbolMars : LineSymbol → Bool
  | .data _ => false
  | _ => true

/-- A unit passes its CRC check "when the two are equal, the unit holds at least the bytes its kind needs for a header and a
CRC, and no undecodable symbol was found in it" (R171); `need` is 10 on a node port and 6 on a trunk port. -/
def crcPasses (need : Nat) (symbols : List LineSymbol) : Bool :=
  let bytes := symbols.map symbolByte
  !(symbols.any symbolMars) && decide (need ≤ bytes.length) && (crc16 (splitCrc bytes).1 == (splitCrc bytes).2)

/-- What the checks of a node port find (R9, R10). -/
inductive SampleVerdict where
  | badCrc
  | badLength
  | good (m : SampleMsg)
  deriving DecidableEq, Repr

/-- The two checks of R9 and R10 on a received unit, by the layout of R172: word 0 holds the stream number in bits 31..26 and
the length field in bits 25..22, word 1 the instant. -/
def judgeSample (symbols : List LineSymbol) : SampleVerdict :=
  if crcPasses 10 symbols then
    let contents := (splitCrc (symbols.map symbolByte)).1
    match wordsOfBytes contents with
    | w0 :: w1 :: payload =>
      let len := (w0.extractLsb' 22 4).toNat
      if 1 ≤ len ∧ len ≤ 8 ∧ contents.length = 8 + 4 * len then
        .good { stream := (w0.extractLsb' 26 6).toFin, lengthField := len, instant := w1, payload := payload }
      else .badLength
    | _ => .badCrc
  else .badCrc

/-- CREDIT modes (R123), coded add 0, set 1 (R174). -/
inductive CreditMode where
  | add
  | set
  deriving DecidableEq, Repr

/-- What the checks of a trunk port find (R122, R174). -/
inductive TrunkVerdict where
  | badCrc
  | badForm
  | credit (mode : CreditMode) (count : Nat)
  | request (r : Request)
  deriving DecidableEq, Repr

/-- The form check of a CREDIT frame's body (R174). -/
def judgeCredit (body : List Word) : TrunkVerdict :=
  match body with
  | [w] =>
    let mode := (w.extractLsb' 24 8).toNat
    let count := (w.extractLsb' 16 8).toNat
    if mode = 0 then (if count = 0 then .badForm else .credit .add count)
    else if mode = 1 then .credit .set count
    else .badForm
  | _ => .badForm

/-- The form check of a REQUEST frame's body: the body length is 1 plus the argument count (R174). -/
def judgeRequest (body : List Word) : TrunkVerdict :=
  match body with
  | w :: args =>
    if (w.extractLsb' 8 8).toNat = args.length then
      .request { tag := w.extractLsb' 24 8, name := w.extractLsb' 16 8, args := args }
    else .badForm
  | [] => .badForm

/-- The two checks of R122 on a received unit, by the layouts of R173 and R174: the header word holds the kind in bits 31..24
and the body length in bits 15..0, and "the bytes between the header and the CRC" are "exactly four times the body length". -/
def judgeTrunk (symbols : List LineSymbol) : TrunkVerdict :=
  if crcPasses 6 symbols then
    let contents := (splitCrc (symbols.map symbolByte)).1
    match wordsOfBytes contents with
    | header :: body =>
      if contents.length = 4 + 4 * (header.extractLsb' 0 16).toNat then
        if (header.extractLsb' 24 8).toNat = 8 then judgeCredit body
        else if (header.extractLsb' 24 8).toNat = 9 then judgeRequest body
        else .badForm
      else .badForm
    | [] => .badCrc
  else .badCrc

/-! ### Codes (R163, R175) -/

/-- Link state codes. -/
def Link.code : Link → Nat
  | .down => 0
  | .aligning => 1
  | .up => 2

/-- Close reason codes. -/
def CloseReason.code : CloseReason → Nat
  | .complete => 0
  | .expired => 1
  | .forced => 2
  | .empty => 3

/-- Group state codes. -/
def GroupState.code : GroupState → Nat
  | .stopped => 0
  | .aborting => 1
  | .running => 2
  | .draining => 3

/-- Stream state codes. -/
def StreamState.code : StreamState → Nat
  | .unbound => 0
  | .waiting => 1
  | .live => 2
  | .lost => 3

/-- Bound group codes: 0, 1, none 255. -/
def groupCode : Option GroupId → Nat
  | some g => g.val
  | none => 255

/-- Bank letter codes. -/
def BankLetter.code : BankLetter → Nat
  | .bankA => 0
  | .bankB => 1

/-- The other bank of a group. -/
def BankLetter.other : BankLetter → BankLetter
  | .bankA => .bankB
  | .bankB => .bankA

/-- Reset cause codes. -/
def ResetCause.code : ResetCause → Nat
  | .power => 0
  | .pin => 1
  | .soft => 2

/-- Status codes. -/
def Status.code : Status → Nat
  | .ok => 0
  | .badOpcode => 1
  | .badArgument => 2
  | .badLength => 3
  | .state => 4
  | .inUse => 5
  | .locked => 6
  | .tooSoon => 7
  | .noTemplate => 8
  | .conflict => 9

/-- Fill policy values (R33). -/
def FillPolicy.code : FillPolicy → Nat
  | .zero => 0
  | .hold => 1
  | .constant => 2

/-- Duplicate policy values (R33). -/
def DupPolicy.code : DupPolicy → Nat
  | .keepFirst => 0
  | .keepLast => 1

/-- Early policy values (R103). -/
def EarlyPolicy.code : EarlyPolicy → Nat
  | .discard => 0
  | .advance => 1

/-- Empty policy values (R103). -/
def EmptyPolicy.code : EmptyPolicy → Nat
  | .skip => 0
  | .emit => 1

/-- Fault kind numbers (R163). -/
def FaultKind.code : FaultKind → Nat
  | .portAlignLost => 0
  | .portFifoOverflow => 1
  | .rowExhausted => 2
  | .cellExhausted => 3
  | .streamLost => 4
  | .streamRecovered => 5
  | .resync => 6
  | .lateRun => 7
  | .markOverrun => 8
  | .creditStarved => 9
  | .trunkDown => 10
  | .frameLost => 11

/-- Places of the port counters in their set (R15). -/
def PortCounter.index : PortCounter → Fin 7
  | .messagesGood => 0
  | .checkErrors => 1
  | .malformed => 2
  | .fifoOverflow => 3
  | .flushed => 4
  | .unknownStream => 5
  | .misrouted => 6

/-- Places of the stream counters in their set (R37). -/
def StreamCounter.index : StreamCounter → Fin 12
  | .accepted => 0
  | .duplicate => 1
  | .duplicateReplaced => 2
  | .lengthDiscards => 3
  | .unboundDiscards => 4
  | .stoppedDiscards => 5
  | .notInGeneration => 6
  | .offCadence => 7
  | .lateDiscards => 8
  | .earlyDiscards => 9
  | .drainingDiscards => 10
  | .fillEntries => 11

/-- Places of the group counters in their set (R115). -/
def GroupCounter.index : GroupCounter → Fin 12
  | .framesComplete => 0
  | .framesExpired => 1
  | .framesForced => 2
  | .framesEmpty => 3
  | .skipped => 4
  | .resyncs => 5
  | .rowExhausted => 6
  | .cellExhausted => 7
  | .aborts => 8
  | .framesLostOnLink => 9
  | .earlyDiscards => 10
  | .lateDiscards => 11

/-- Places of the trunk counters in their set (R135). -/
def TrunkCounter.index : TrunkCounter → Fin 6
  | .framesSent => 0
  | .marksSent => 1
  | .repliesSent => 2
  | .checkErrorsIn => 3
  | .requestsDropped => 4
  | .creditExcess => 5

/-- The names of the 22 requests (R175). -/
inductive RequestName where
  | ping | readStream | writeStream | templateLoad | templateCopy | templateRead | templateCommit | templateCancel
  | groupSet | groupStart | groupStop | groupAbort | groupStatus | rowList | portStatus | portSet | trunkSet
  | readCounters | faultRead | faultTake | faultMask | reset
  deriving DecidableEq, Repr

/-- The request a code names; codes 0 and 23..255 are not defined (R175). -/
def RequestName.ofCode (code : Byte) : Option RequestName :=
  [none, some .ping, some .readStream, some .writeStream, some .templateLoad, some .templateCopy, some .templateRead,
    some .templateCommit, some .templateCancel, some .groupSet, some .groupStart, some .groupStop, some .groupAbort,
    some .groupStatus, some .rowList, some .portStatus, some .portSet, some .trunkSet, some .readCounters,
    some .faultRead, some .faultTake, some .faultMask, some .reset].getD code.toNat none

/-! ### Argument words (R174, R175) -/

/-- An argument word that names a group, if it does: 0 or 1. -/
def argGroup (w : Word) : Option GroupId :=
  if h : w.toNat < 2 then some ⟨w.toNat, h⟩ else none

/-- An argument word that names a stream, if it does: 0..63. -/
def argStream (w : Word) : Option StreamId :=
  if h : w.toNat < 64 then some ⟨w.toNat, h⟩ else none

/-- An argument word that names a node port, if it does: 0..15. -/
def argNode (w : Word) : Option NodeId :=
  if h : w.toNat < 16 then some ⟨w.toNat, h⟩ else none

/-- How many of the first `n` items a set-valued argument names: bits 0..n − 1 (R175). -/
def namedCount (n : Nat) (set : Word) : Nat :=
  ((List.range n).filter fun i => set.getLsbD i).length

/-- A set-valued argument names at least one of the first `n` items and nothing else (R175). -/
def setInRange (n : Nat) (set : Word) : Bool :=
  decide (1 ≤ set.toNat ∧ set.toNat < 2 ^ n)

/-- The value word of item `i` of a set, where the set names it: values stand "in the order of the set bits, lowest bit first"
(R175). -/
def namedValue (set : Word) (values : List Word) (i : Nat) : Option Word :=
  if set.getLsbD i then values[namedCount i set]? else none

/-! ### Layouts of the words the part sends (R173) -/

/-- The common header word: kind, sending port, body length in words. -/
def headerWord (kind : Nat) (p : TrunkId) (bodyLength : Nat) : Word :=
  (BitVec.ofNat 8 kind ++ BitVec.ofNat 8 p.val ++ BitVec.ofNat 16 bodyLength : BitVec 32)

/-- A unit's words: the header word and the body. -/
def unitWords (kind : Nat) (p : TrunkId) (body : List Word) : List Word :=
  headerWord kind p body.length :: body

/-- The words of a REPLY (R173). -/
def replyWords (p : TrunkId) (r : Reply) : List Word :=
  unitWords 3 p
    (word4 r.tag.toNat r.name.toNat r.status.code 0 :: word2 (BitVec.ofNat 16 r.results.length) 0 :: r.results)

/-- Port code of a fault record: n for NPn, 16 + n for TPn (R173). -/
def PortName.code : PortName → Nat
  | .node p => p.val
  | .trunk p => 16 + p.val

/-- The four words of a fault record (R173). -/
def faultWords (r : FaultRecord) : List Word :=
  let presence :=
    (if r.what.group.isSome then 1 else 0) + (if r.what.stream.isSome then 2 else 0)
      + (if r.what.port.isSome then 4 else 0) + (if r.what.instant.isSome then 8 else 0)
  [word4 r.what.kind.code presence r.repeats ((r.what.group.map Fin.val).getD 0),
   (r.sequence ++ BitVec.ofNat 8 ((r.what.stream.map Fin.val).getD 0) ++ BitVec.ofNat 8 ((r.what.port.map PortName.code).getD 0) :
      BitVec 32),
   r.time,
   r.what.instant.getD 0]

/-- The three words of a slot descriptor (R173). -/
def slotWords (x : Slot) : List Word :=
  [natWord x.stream.val, natWord x.cadence, natWord x.phase]

/-- `n` words: the list, cut or filled with zero words to that length. -/
def exactWords (n : Nat) (ws : List Word) : List Word :=
  (ws ++ List.replicate n 0).take n

end Sys2Proof.Machine
end

