-- ==== Sys2Proof/Machine/Ops.lean ====
section
/-! DEFINITION. The named operations over the parts of the state: reading and replacing one port, stream, group or trunk,
raising a counter (R168), logging a fault (R159 to R161), letting the time count reach an expiry, and the row and cell pools
(R59, R61). -/

namespace Sys2Proof.Machine

/-! ### One port, stream, group, trunk or cell -/

/-- Node port `p`. -/
def State.node (s : State) (p : NodeId) : NodePort := s.nodes[p.val]

/-- Replace node port `p`. -/
def State.setNode (s : State) (p : NodeId) (x : NodePort) : State :=
  { s with nodes := s.nodes.set p.val x }

/-- Change node port `p`. -/
def State.modNode (s : State) (p : NodeId) (f : NodePort → NodePort) : State :=
  s.setNode p (f (s.node p))

/-- Stream entry `i`. -/
def State.stream (s : State) (i : StreamId) : Stream := s.streams[i.val]

/-- Replace stream entry `i`. -/
def State.setStream (s : State) (i : StreamId) (x : Stream) : State :=
  { s with streams := s.streams.set i.val x }

/-- Change stream entry `i`. -/
def State.modStream (s : State) (i : StreamId) (f : Stream → Stream) : State :=
  s.setStream i (f (s.stream i))

/-- Change every stream entry. -/
def State.mapStreams (s : State) (f : StreamId → Stream → Stream) : State :=
  { s with streams := s.streams.mapFinIdx fun i x h => f ⟨i, h⟩ x }

/-- Group `g`. -/
def State.group (s : State) (g : GroupId) : Group := s.groups[g.val]

/-- Replace group `g`. -/
def State.setGroup (s : State) (g : GroupId) (x : Group) : State :=
  { s with groups := s.groups.set g.val x }

/-- Change group `g`. -/
def State.modGroup (s : State) (g : GroupId) (f : Group → Group) : State :=
  s.setGroup g (f (s.group g))

/-- Trunk port `p`. -/
def State.trunk (s : State) (p : TrunkId) : Trunk := s.trunks[p.val]

/-- Replace trunk port `p`. -/
def State.setTrunk (s : State) (p : TrunkId) (x : Trunk) : State :=
  { s with trunks := s.trunks.set p.val x }

/-- Change trunk port `p`. -/
def State.modTrunk (s : State) (p : TrunkId) (f : Trunk → Trunk) : State :=
  s.setTrunk p (f (s.trunk p))

/-- The eight words of cell `c`. -/
def State.cell (s : State) (c : CellId) : Vector Word 8 := s.cells[c.val]

/-! ### Reset pins -/

/-- A reset pin holds every piece of state at its reset value (R153). -/
def State.held (s : State) : Bool := s.hold != .none

/-- What a block does with an event: nothing while a reset pin holds the part (R153), else the effect `f`. -/
def State.unlessHeld (s : State) (f : State → State) : State :=
  if s.held then s else f s

/-! ### Counters (R168) -/

/-- A counter's rise by `k`: it saturates at 4,294,967,295. -/
def saturate (c k : Nat) : Nat := min (c + k) 4294967295

/-- Raise counter `i` of a set by `k`. -/
def raise {n : Nat} (v : Vector Nat n) (i : Fin n) (k : Nat) : Vector Nat n :=
  v.set i.val (saturate v[i.val] k)

/-- Raise a counter of node port `p` by `k` (R15). -/
def State.countNode (s : State) (p : NodeId) (c : PortCounter) (k : Nat) : State :=
  s.modNode p fun x => { x with counters := raise x.counters c.index k }

/-- Raise a counter of stream `i` by 1 (R37). -/
def State.countStream (s : State) (i : StreamId) (c : StreamCounter) : State :=
  s.modStream i fun x => { x with counters := raise x.counters c.index 1 }

/-- Raise a counter of group `g` by `k` (R115). -/
def State.countGroup (s : State) (g : GroupId) (c : GroupCounter) (k : Nat) : State :=
  s.modGroup g fun x => { x with counters := raise x.counters c.index k }

/-- Raise a counter of trunk port `p` by `k` (R135). -/
def State.countTrunk (s : State) (p : TrunkId) (c : TrunkCounter) (k : Nat) : State :=
  s.modTrunk p fun x => { x with counters := raise x.counters c.index k }

/-! ### The fault log (R157 to R161) -/

/-- A logging coalesces into the newest record when kind and all four subject fields agree and its repeat count is below 255
(R160). -/
def FaultRecord.accepts (r : FaultRecord) (l : Logging) : Bool :=
  decide (r.what = l) && decide (r.repeats < 255)

/-- A new record at the newest end: it takes the next sequence number, and the next one rises by 1, wrapping (R158, R159). -/
def FaultLog.add (log : FaultLog) (now : Time) (l : Logging) : FaultLog :=
  { log with
    records := log.records ++ [{ sequence := log.nextSequence, what := l, time := now, repeats := 1 }]
    nextSequence := log.nextSequence + 1 }

/-- Steps 2 and 3 of R159: a new record where the log holds fewer than 32, else an overflow (R161). -/
def FaultLog.addOrOverflow (log : FaultLog) (now : Time) (l : Logging) : FaultLog :=
  if log.records.length < 32 then log.add now l
  else { log with overflowCount := min (log.overflowCount + 1) 65535, overflowFlag := true }

/-- A logging, taken by the fault log: coalescing first (R160), then a new record, then an overflow (R159). -/
def FaultLog.take (log : FaultLog) (now : Time) (l : Logging) : FaultLog :=
  match log.records.getLast? with
  | some newest =>
    if newest.accepts l then
      { log with records := log.records.dropLast ++ [{ newest with repeats := newest.repeats + 1 }] }
    else log.addOrOverflow now l
  | none => log.addOrOverflow now l

/-- Hand the fault log a logging; the log reads the time itself (R159). -/
def State.logFault (s : State) (l : Logging) : State :=
  { s with log := s.log.take s.time l }

/-- A logging of a kind whose only subject is a port (R164). -/
def portLogging (kind : FaultKind) (port : PortName) : Logging :=
  { kind := kind, group := none, stream := none, port := some port, instant := none }

/-- A logging of a kind whose only subject is a group (R164). -/
def groupLogging (kind : FaultKind) (g : GroupId) : Logging :=
  { kind := kind, group := some g, stream := none, port := none, instant := none }

/-- A logging of STREAM_LOST or STREAM_RECOVERED: group, stream and the frame's instant (R28, R164). -/
def streamLogging (kind : FaultKind) (g : GroupId) (i : StreamId) (n : Instant) : Logging :=
  { kind := kind, group := some g, stream := some i, port := none, instant := some n }

/-- CREDIT_STARVED: the port and its group (R125, R164). -/
def starvedLogging (p : TrunkId) : Logging :=
  { kind := .creditStarved, group := some p, stream := none, port := some (.trunk p), instant := none }

/-- FRAME_LOST: the frame's group and instant and the trunk port (R133, R164). -/
def frameLostLogging (p : TrunkId) (n : Instant) : Logging :=
  { kind := .frameLost, group := some p, stream := none, port := some (.trunk p), instant := some n }

/-! ### Time -/

/-- The time count after it has reached `t`: `t` where `t` still lies ahead, else the count as it stands (log entry 3). -/
def timeAfter (now t : Time) : Time :=
  if before now t then t else now

/-- Let the time count reach `t`. -/
def State.reachTime (s : State) (t : Time) : State :=
  { s with time := timeAfter s.time t }

/-- One microsecond of the free-running time count; it stays at 0 while PORn is low (R153). -/
def State.tick (s : State) : State :=
  if s.hold = .power then s else { s with time := s.time + 1 }

/-! ### Pools (R59, R61) -/

/-- Write a payload over the first words of cell `c`; the cell's other words stay (R61, R73). -/
def State.writeCell (s : State) (c : CellId) (payload : List Word) : State :=
  { s with cells := s.cells.set c.val (Vector.ofFn fun i => payload.getD i.val s.cells[c.val][i.val]) }

/-- Released cells join the tail of the cell free list (R61). -/
def State.freeCellList (s : State) (cs : List CellId) : State :=
  { s with freeCells := s.freeCells ++ cs }

/-- Released rows join the tail of the row free list (R59). -/
def State.freeRowList (s : State) (rs : List RowId) : State :=
  { s with freeRows := s.freeRows ++ rs }

/-- The first `l` words of cell `c`: the payload of a stream of that length (R61). -/
def State.payload (s : State) (c : CellId) (l : Nat) : List Word :=
  (s.cell c).toList.take l

/-- The cells that a list of entries holds: one for each REAL entry (R88). -/
def realCells (entries : List Entry) : List CellId :=
  entries.filterMap fun e =>
    match e.content with
    | .real c => some c
    | .fill _ => none

/-- The cells that a row's slot map holds (R60). -/
def Row.cellList (r : Row) : List CellId := r.slotMap.filterMap fun x => x

end Sys2Proof.Machine
end

