-- ==== Sys2Proof/Machine/Templates.lean ====
section
/-! DEFINITION. The template store's shared operations: due slots (R40), the governing bank (R41), binding and unbinding
(R22, R23), the switch (R51, R52), and the moves of the cursor that take it (R58). -/

namespace Sys2Proof.Machine

/-! ### Due slots (R40) -/

/-- A slot is due at adjusted instant `n` when n mod cadence equals phase, `n` taken as its unsigned value (R40). -/
def Slot.due (x : Slot) (n : Instant) : Bool := n.toNat % x.cadence == x.phase

/-- The due slots of `n` in a list, in slot order, each with its slot index (R40). -/
def dueSlots (slots : List Slot) (n : Instant) : List (Slot × Nat) :=
  slots.zipIdx.filter fun x => x.1.due n

/-- The due count of `n` in a list (R40). -/
def dueCount (slots : List Slot) (n : Instant) : Nat := (dueSlots slots n).length

/-- How many of the `len` instants from `n` on have a due slot.  "Every cadence divides 8, so the due count of an instant
repeats every 8 instants of one bank" (R71): whole periods, then the rest. -/
def dueInstants (slots : List Slot) (n : Instant) (len : Nat) : Nat :=
  let upTo := fun k => ((List.range k).filter fun i => dueCount slots (n + BitVec.ofNat 32 i) != 0).length
  len / 8 * upTo 8 + upTo (len % 8)

/-! ### Banks -/

/-- The governing bank of `n`: the ARMED bank if there is one and `n` is S or after S, else the ACTIVE bank (R41). -/
def Templates.governing (t : Templates) (n : Instant) : Generation × List Slot :=
  match t.armed with
  | some a => if atOrAfter n a.switchAt then (a.generation, t.otherSlots) else (t.activeGen, t.activeSlots)
  | none => (t.activeGen, t.activeSlots)

/-- The slot list of a generation: the ARMED bank's if it is the ARMED generation, else the ACTIVE bank's (R60). -/
def Templates.slotsOf (t : Templates) (gen : Generation) : List Slot :=
  match t.armed with
  | some a => if a.generation = gen then t.otherSlots else t.activeSlots
  | none => t.activeSlots

/-- A stream appears in a list. -/
def namesStream (slots : List Slot) (i : StreamId) : Bool := slots.any fun x => x.stream == i

/-- A stream appears in the ACTIVE or the ARMED bank; the IDLE bank does not count (R23). -/
def Templates.names (t : Templates) (i : StreamId) : Bool :=
  namesStream t.activeSlots i || (t.armed.isSome && namesStream t.otherSlots i)

/-- The slot of a stream in a list, with its index; a stream occupies at most one slot (R42). -/
def findSlot (slots : List Slot) (i : StreamId) : Option (Slot × Nat) :=
  slots.zipIdx.find? fun x => x.1.stream == i

/-- The two banks change roles: the other bank becomes ACTIVE with generation `gen`, the old ACTIVE bank becomes IDLE and keeps
its list, the switch instant becomes absent (R48, R51). -/
def Templates.swap (t : Templates) (gen : Generation) : Templates :=
  { activeBank := t.activeBank.other, activeSlots := t.otherSlots, activeGen := gen, otherSlots := t.activeSlots, armed := none }

/-! ### Binding (R22, R23, R24) -/

/-- A stream bound by a commit (R22). -/
def Stream.bind (x : Stream) (g : GroupId) : Stream :=
  { x with group := some g, state := .waiting, fillRun := 0, holdStore := none }

/-- A stream unbound (R23). -/
def Stream.unbind (x : Stream) : Stream :=
  { x with group := none, state := .unbound, fillRun := 0, holdStore := none }

/-- A bound stream returned to WAITING by a group-wide event (R24). -/
def Stream.restart (x : Stream) : Stream :=
  { x with state := .waiting, fillRun := 0, holdStore := none }

/-- Unbind each stream bound to `g` that is left in neither the ACTIVE nor the ARMED bank (R23). -/
def State.unbindUnnamed (s : State) (g : GroupId) : State :=
  s.mapStreams fun i x => if x.group = some g ∧ !(s.group g).templates.names i then x.unbind else x

/-- Bind each stream of `slots` that was in neither the ACTIVE nor the ARMED bank of `g` (R22); the banks are read before the
commit's own change. -/
def State.bindNew (s : State) (g : GroupId) (slots : List Slot) : State :=
  s.mapStreams fun i x => if namesStream slots i ∧ !(s.group g).templates.names i then x.bind g else x

/-- Return every stream bound to `g` to WAITING (R24). -/
def State.restartStreams (s : State) (g : GroupId) : State :=
  s.mapStreams fun _ x => if x.group = some g then x.restart else x

/-! ### The switch and the cursor -/

/-- The switch of a group with an ARMED bank (R51, R52); a group with none is left as it is. -/
def State.takeSwitch (s : State) (g : GroupId) : State :=
  match (s.group g).templates.armed with
  | none => s
  | some a => (s.modGroup g fun x => { x with templates := x.templates.swap a.generation }).unbindUnnamed g

/-- A cursor move from `e` to `n` takes the switch when it goes "from a value before S to S or a value after S" (R51). -/
def Templates.switchReached (t : Templates) (e n : Instant) : Bool :=
  match t.armed with
  | none => false
  | some a => before e a.switchAt && atOrAfter n a.switchAt

/-- Move the cursor of `g` forward to `n`, taking the switch if the move reaches or passes S (R51, R58); a cursor that is
unset is set (R67), and takes no switch. -/
def State.moveCursor (s : State) (g : GroupId) (n : Instant) : State :=
  let t := s.modGroup g fun x => { x with cursor := some n }
  match (s.group g).cursor with
  | none => t
  | some e => if (s.group g).templates.switchReached e n then t.takeSwitch g else t

/-- The window as every entry into STOPPED and every GROUP_START from STOPPED leaves it: cursor unset, late run 0, flag clear
(R56). -/
def Group.clearWindow (x : Group) : Group :=
  { x with cursor := none, lateRun := 0, lateLogged := false }

/-- Entry into STOPPED by drain completion: state, window, and the switch of any ARMED bank (R108, R52). -/
def State.completeDrain (s : State) (g : GroupId) : State :=
  (s.modGroup g fun x => { x.clearWindow with state := .stopped }).takeSwitch g

end Sys2Proof.Machine
end

