-- ==== Sys2Proof/Machine/Flags.lean ====
section
/-! DEFINITION. What the part derives from its state without storing it: ripeness and completeness of a row (R60), the alert
condition and FAULT_N (R166), a credit wait (R125), emptiness of a group (R101), the position of an instant against the cursor
(R57), and the fields a record, a mark or a status reply reports. -/

namespace Sys2Proof.Machine

/-! ### Groups and rows -/

/-- STOPPED, the aborting condition included (R101). -/
def GroupState.isStopped : GroupState → Bool
  | .stopped | .aborting => true
  | .running | .draining => false

/-- RUNNING or DRAINING: the states in which a REAL entry updates its hold store (R30). -/
def GroupState.isActive (x : GroupState) : Bool := !x.isStopped

/-- The open row of a group for instant `n`, if there is one (R59). -/
def Group.rowAt (x : Group) (n : Instant) : Option Row := x.rows.find? fun r => r.instant == n

/-- Due count of an open row: the due slots of its generation's list at its instant (R60). -/
def Group.rowDue (x : Group) (r : Row) : Nat := dueCount (x.templates.slotsOf r.generation) r.instant

/-- Present count: the slots whose map holds a cell (R60). -/
def Row.present (r : Row) : Nat := r.cellList.length

/-- COMPLETE: the present count equals the due count (R60). -/
def Group.rowComplete (x : Group) (r : Row) : Bool := r.present == x.rowDue r

/-- Ripe: COMPLETE, or the expired flag set (R60). -/
def Group.rowRipe (x : Group) (r : Row) : Bool := x.rowComplete r || r.expired

/-- A governing row that is ripe, if the group has one: the oldest open row (R60). -/
def Group.ripeGoverning (x : Group) : Option Row :=
  match x.rows with
  | r :: _ => if x.rowRipe r then some r else none
  | [] => none

/-- Free places of the frame queue: 8 minus its depth (R71). -/
def Group.freePlaces (x : Group) : Nat := 8 - x.queue.length

/-- A group is empty when it has no open row and its frame queue depth is 0 (R101). -/
def Group.isEmpty (x : Group) : Bool := x.rows.isEmpty && x.queue.isEmpty

/-- The head of the frame queue is in transmission (R96). -/
def Group.headSending (x : Group) : Bool :=
  match x.queue with
  | r :: _ => r.inTransmission
  | [] => false

/-- Microseconds to a row's deadline: 0 for an expired row (R60). -/
def State.rowWait (s : State) (r : Row) : Nat :=
  if r.expired then 0 else distance s.time r.deadline

/-! ### Position against the cursor (R57) -/

/-- Where an adjusted instant lies against a set cursor. -/
inductive Position where
  | inWindow
  | early
  | late
  deriving DecidableEq, Repr

/-- R57: offset 0..D − 1 in the window, D..2^31 − 1 early, the rest late. -/
def position (e : Instant) (depth : Nat) (n : Instant) : Position :=
  if distance e n < depth then .inWindow
  else if distance e n ≤ 2147483647 then .early
  else .late

/-! ### Frame records (R90) -/

/-- The entry is a fill. -/
def Entry.isFill (e : Entry) : Bool :=
  match e.content with
  | .real _ => false
  | .fill _ => true

/-- Due count of a record: one entry per due slot (R88, R90). -/
def FrameRecord.dueCount (r : FrameRecord) : Nat := r.entries.length

/-- Fill set of a record: the slot indices whose entries are fills (R90). -/
def FrameRecord.fillSet (r : FrameRecord) : List Nat := (r.entries.filter Entry.isFill).map Entry.slot

/-- The fill set as a word: bit i set when slot index i is a fill (R173). -/
def FrameRecord.fillWord (r : FrameRecord) : Word :=
  r.fillSet.foldl (fun w i => w ||| (1#32 <<< i)) 0

/-! ### Credit (R125) -/

/-- A credit wait holds for a trunk port while it is UP, its group's queue has a head not in transmission, and its balance is
0 (R125). -/
def State.creditWait (s : State) (p : TrunkId) : Bool :=
  (s.trunk p).link == .up && !(s.group p).queue.isEmpty && !(s.group p).headSending && (s.trunk p).credit == 0

/-! ### FAULT_N (R166) -/

/-- The alert condition: a record whose kind is not masked, or an overflow flag that is set and not masked (R166). -/
def State.alertCondition (s : State) : Bool :=
  (s.log.records.any fun r => !s.alertMask.getLsbD r.what.kind.code) || (s.log.overflowFlag && !s.alertMask.getLsbD 12)

/-- The pin FAULT_N: driven low while the alert condition holds, released otherwise (R166). -/
def State.faultNLow (s : State) : Bool := s.alertCondition

/-! ### Bank roles (R38) -/

/-- Bank roles, coded ACTIVE 0, IDLE 1, ARMED 2 (R175). -/
inductive Role where
  | active
  | idle
  | armed
  deriving DecidableEq, Repr

/-- The role of a bank (R38). -/
def Templates.role (t : Templates) (b : BankLetter) : Role :=
  if b = t.activeBank then .active
  else if t.armed.isSome then .armed
  else .idle

/-- The slot list of a bank (R38). -/
def Templates.bankSlots (t : Templates) (b : BankLetter) : List Slot :=
  if b = t.activeBank then t.activeSlots else t.otherSlots

/-- The generation of a bank: absent for an IDLE bank (R38, R39). -/
def Templates.bankGen (t : Templates) (b : BankLetter) : Option Generation :=
  if b = t.activeBank then some t.activeGen else t.armed.map Armed.generation

/-- Role codes (R175). -/
def Role.code : Role → Nat
  | .active => 0
  | .idle => 1
  | .armed => 2

end Sys2Proof.Machine
end

