-- ==== Sys2Proof/Machine/Resets.lean ====
section
/-! DEFINITION. The three resets (R153, R155) and what a port does once one has been taken (R2, R117): each piece of state
takes the value its owner's table gives for that reset. -/

namespace Sys2Proof.Machine

/-! ### Ports -/

/-- An idle sequence: four IDLE symbols (R170). -/
def idleSequence : List LineSymbol := [.idle, .idle, .idle, .idle]

/-- A unit as it is sent whole: "START, its bytes, and END" (R170). -/
def TxUnit.sentSymbols (u : TxUnit) : List LineSymbol := .start :: u.bytes.map LineSymbol.data ++ [.stop]

/-- A unit that is cut once `k` of its bytes are out: "closed with ABORT in place of its remaining bytes and END" (R170). -/
def TxUnit.cutSymbols (u : TxUnit) (k : Nat) : List LineSymbol := .start :: (u.bytes.take k).map LineSymbol.data ++ [.abort]

/-- What the line TPn_TX carries: the unit in transmission, or an idle sequence, again and again, while the transmitter is free (R170);
outside UP it is free (R118).  MODEL'S CHOICE (log entry 26): so also while a reset pin holds the part, though R153 says that the
transmitters send nothing while PORn is low; the model reads that as no unit. -/
def Trunk.onLine (x : Trunk) : List LineSymbol :=
  match x.tx with
  | none => idleSequence
  | some u => u.sentSymbols

/-- The transmitter closes its unit with END and is free; an idle sequence goes out before any other unit (R170). -/
def Trunk.endUnit (x : Trunk) : Trunk :=
  match x.tx with
  | none => x
  | some u => { x with tx := none, lastClosed := u.sentSymbols ++ idleSequence }

/-- A unit in transmission when a reset is taken, or when the port leaves UP, is ended with an abort delimiter (R117, R119); `k` of its
bytes are out by then.  The idle sequence behind the ABORT is recorded even where a reset pin then holds the part (log entry 26). -/
def Trunk.cutUnit (x : Trunk) (k : Nat) : Trunk :=
  match x.tx with
  | none => x
  | some u => { x with tx := none, lastClosed := u.cutSymbols k ++ idleSequence }

/-- How many bytes of its unit port `p` has sent when an event cuts it: a free value (R170, log entry 22). -/
def State.bytesOut (s : State) (p : TrunkId) : Nat := Config.bytesBeforeCut s.draws p.val

/-- A node port at its reset values; the line is outside the part and stays as it is (R2). -/
def NodePort.atReset (x : NodePort) : NodePort := { NodePort.initial with line := x.line }

/-- The receiver looks at its line once a reset has been taken or released: it records the signal, and an enabled port whose
line carries signal enters ALIGNING (R2, R3). -/
def NodePort.lookAtLine (x : NodePort) : NodePort :=
  if x.line ∧ x.enabled then { x with present := true, link := .aligning, aligningRun := 0 }
  else { x with present := x.line }

/-- A trunk port at its power-on or pin-reset values; a unit in transmission is cut (R117), one in reception dropped (log entry 25). -/
def Trunk.atReset (x : Trunk) (k : Nat) : Trunk :=
  { Trunk.initial with line := x.line, lastClosed := (x.cutUnit k).lastClosed }

/-- A trunk port at its soft-reset values: mark interval and starve limit are kept (R117). -/
def Trunk.atSoftReset (x : Trunk) (k : Nat) : Trunk :=
  { x.atReset k with markInterval := x.markInterval, starveLimit := x.starveLimit }

/-- A trunk port whose line carries signal enters ALIGNING at once (R117, R118). -/
def Trunk.lookAtLine (x : Trunk) : Trunk :=
  if x.line then { x with link := .aligning, aligningRun := 0 } else x

/-! ### Streams and groups at a soft reset -/

/-- A stream entry after a soft reset, once the switch has been taken (R19). -/
def Stream.atSoftReset (x : Stream) : Stream :=
  { x with state := if x.group.isSome then .waiting else .unbound, fillRun := 0, holdStore := none, refs := 0,
           counters := Vector.replicate 12 0 }

/-- A group after a soft reset: parameters and banks are kept (R102, R38), all else is initial (R56, R96, R101). -/
def Group.atSoftReset (x : Group) : Group :=
  { Group.initial with depth := x.depth, holdTime := x.holdTime, early := x.early, empty := x.empty, templates := x.templates }

/-! ### The whole part -/

/-- Power-on reset: every piece of state at its power-on value, held while PORn stays low (R153).  The lines, the pin RESET_N
and the model's own fields (the queue and the count of free values) are not the part's to reset. -/
def State.powerOn (s : State) : State :=
  { State.reset with
    pending := s.pending, hold := .power, resetNLow := s.resetNLow, draws := s.draws + 1
    nodes := s.nodes.map NodePort.atReset
    trunks := Vector.ofFn fun p => (s.trunk p).atReset (s.bytesOut p) }

/-- Pin reset: every piece of state at its pin-reset value, held while RESET_N stays low; the fault log, the alert mask and the
time count are kept, and the soft reset count with them (R152, R153). -/
def State.pinReset (s : State) : State :=
  { s.powerOn with
    hold := .pin, time := s.time, log := s.log, alertMask := s.alertMask, cause := .pin, softCount := s.softCount }

/-- The ports look at their lines again (R153). -/
def State.lookAtLines (s : State) : State :=
  { s with nodes := s.nodes.map NodePort.lookAtLine, trunks := s.trunks.map Trunk.lookAtLine }

/-- Release of a reset pin: the part is held no longer, and the ports look at their lines (R153). -/
def State.release (s : State) : State :=
  { s with hold := .none }.lookAtLines

/-- The soft reset, taken as one event (R155): each ARMED bank switches before the streams are set WAITING (R52), every owner's
soft-reset values are taken, and the ports look at their lines.  Time count, fault log and alert mask are kept. -/
def State.softReset (s : State) : State :=
  let t := (s.takeSwitch 0).takeSwitch 1
  { t with
    nodes := t.nodes.map NodePort.atReset
    lastNode := 15
    intake := none
    streams := t.streams.map Stream.atSoftReset
    groups := t.groups.map Group.atSoftReset
    freeRows := List.finRange 96
    freeCells := List.finRange 1024
    trunks := Vector.ofFn fun p => (t.trunk p).atSoftReset (t.bytesOut p)
    draws := t.draws + 1
    lastTrunk := 1
    softPending := none
    cause := .soft
    softCount := min (t.softCount + 1) 255 }.lookAtLines

end Sys2Proof.Machine
end

