-- ==== Sys2Proof/Machine/Transmit.lean ====
section
/-! DEFINITION. The trunk transmitter's shared operations: composing and starting a mark (R127), a reply (R134) and a merged
frame (R131), the transmit arbiter's choice (R129), the end or loss of a unit (R132, R133), credit waits and the starve timer
(R125), and a port's entering and leaving UP (R120, R121). -/

namespace Sys2Proof.Machine

/-! ### Marks (R127) -/

/-- The body of a mark composed when the port's debt after it is `debt` (R127, R173). -/
def State.markBody (s : State) (p : TrunkId) (debt : Nat) : List Word :=
  let x := s.trunk p
  let g := s.group p
  let t := g.templates
  [word4 g.state.code g.rows.length g.queue.length debt,
   (x.markSequence ++ BitVec.ofNat 8 x.credit ++ BitVec.ofNat 8 s.log.records.length : BitVec 32),
   word4 (if g.cursor.isSome then 1 else 0) (if t.armed.isSome then 1 else 0) (if s.log.overflowFlag then 1 else 0) 0,
   g.cursor.getD 0,
   word2 t.activeGen ((t.armed.map Armed.generation).getD 0),
   (t.armed.map Armed.switchAt).getD 0,
   word2 (BitVec.ofNat 16 s.freeRows.length) (BitVec.ofNat 16 s.freeCells.length)]

/-- Start of a mark: it takes the port's sequence number and the debt falls by 1; the mark carries the debt after the fall. -/
def State.startMark (s : State) (p : TrunkId) : State :=
  let debt := (s.trunk p).markDebt - 1
  s.modTrunk p fun x =>
    { x with
      markSequence := x.markSequence + 1
      markDebt := debt
      tx := some { kind := .mark, bytes := unitBytes (unitWords 2 p (s.markBody p debt)) } }

/-! ### Replies (R134) -/

/-- Start of the reply at the head of the reply queue; it keeps its place until its transmission ends. -/
def State.startReply (s : State) (p : TrunkId) (r : Reply) : State :=
  s.modTrunk p fun x => { x with tx := some { kind := .reply, bytes := unitBytes (replyWords p r) } }

/-! ### Merged frames (R131) -/

/-- The words of an entry at transmission start (R31, R131): a REAL entry's cell, or its fill, each exactly the payload length of
its stream. -/
def State.entryWords (s : State) (e : Entry) : List Word :=
  let x := s.stream e.stream
  match e.content with
  | .real c => exactWords x.length (s.payload c x.length)
  | .fill .zero => List.replicate x.length 0
  | .fill .const => List.replicate x.length x.fillConstant
  | .fill .hold => exactWords x.length (x.holdStore.getD [])

/-- A FILL_HOLD entry that finds its stream's hold store invalid (R31). -/
def State.missesHold (s : State) (e : Entry) : Bool :=
  e.content == .fill .hold && (s.stream e.stream).holdStore.isNone

/-- The body of a merged frame (R173). -/
def State.frameBody (s : State) (p : TrunkId) (r : FrameRecord) : List Word :=
  word4 p.val r.reason.code (if r.holdMiss then 1 else 0) r.dueCount :: r.instant :: word2 r.generation 0 :: r.fillWord
    :: r.entries.flatMap s.entryWords

/-- Start of the head of the frame queue: one credit is spent, the record is marked in transmission and keeps its place, the
fills are materialised, and the hold-miss flag is set where a FILL_HOLD entry finds no valid store (R131). -/
def State.startFrame (s : State) (p : TrunkId) (head : FrameRecord) (rest : List FrameRecord) : State :=
  let sent := { head with inTransmission := true, holdMiss := head.entries.any s.missesHold }
  (s.modGroup p fun x => { x with queue := sent :: rest }).modTrunk p fun x =>
    { x with
      credit := x.credit - 1
      tx := some { kind := .frame, bytes := unitBytes (unitWords 1 p (s.frameBody p sent)) } }

/-! ### The transmit arbiter (R129) -/

/-- Choices 3 to 5 of R129: the head of the frame queue with credit, else a mark that is owed, else nothing. -/
def State.chooseFrameOrMark (s : State) (p : TrunkId) : State :=
  match (s.group p).queue with
  | head :: rest =>
    if head.inTransmission = false ∧ 1 ≤ (s.trunk p).credit then s.startFrame p head rest
    else if 1 ≤ (s.trunk p).markDebt then s.startMark p
    else s
  | [] => if 1 ≤ (s.trunk p).markDebt then s.startMark p else s

/-- The transmit arbiter makes a choice if the port is UP and its transmitter free: a mark at debt 8, else a reply, else the head
of the frame queue with credit, else a mark, else nothing (R129). -/
def State.choose (s : State) (p : TrunkId) : State :=
  if (s.trunk p).link = .up ∧ (s.trunk p).tx = none then
    if 8 ≤ (s.trunk p).markDebt then s.startMark p
    else
      match (s.trunk p).replies with
      | r :: _ => s.startReply p r
      | [] => s.chooseFrameOrMark p
  else s

/-! ### Credit waits and the starve timer (R125) -/

/-- The starve timer started now: its expiry is one starve limit, in milliseconds, after this moment (R125). -/
def State.starveExpiry (s : State) (p : TrunkId) : Time :=
  s.time + BitVec.ofNat 32 ((s.trunk p).starveLimit * 1000)

/-- What one event does to the starve timer of `p`: a wait that begins starts it if a limit is set and the logged flag is clear,
and a wait that ends stops it; `was` says whether a wait held before the event (R125). -/
def State.settleWait (s : State) (was : Bool) (p : TrunkId) : State :=
  if !was ∧ s.creditWait p then
    if (s.trunk p).starveLimit ≠ 0 ∧ (s.trunk p).starveLogged = false then
      s.modTrunk p fun x => { x with starveTimer := some (s.starveExpiry p) }
    else s
  else if was ∧ !s.creditWait p then s.modTrunk p fun x => { x with starveTimer := none }
  else s

/-- One event's effect `f`, with the credit waits that it begins or ends on either port (R125). -/
def State.withWaits (s : State) (f : State → State) : State :=
  ((f s).settleWait (s.creditWait 0) 0).settleWait (s.creditWait 1) 1

/-! ### Records leaving a frame queue (R98) -/

/-- The frame references of every stream that the entries name fall by 1 (R32). -/
def State.dropRefs (s : State) (entries : List Entry) : State :=
  entries.foldl (fun t e => t.modStream e.stream fun x => { x with refs := x.refs - 1 }) s

/-- The frame references of every stream that the entries name rise by 1 (R32). -/
def State.addRefs (s : State) (entries : List Entry) : State :=
  entries.foldl (fun t e => t.modStream e.stream fun x => { x with refs := x.refs + 1 }) s

/-- The head of a group's frame queue leaves: its cells return to the free list, in slot order (log entry 9), the depth falls by 1, the
frame references of its streams fall (R132 steps 2 and 3, R133). -/
def State.removeHead (s : State) (g : GroupId) (head : FrameRecord) (rest : List FrameRecord) : State :=
  ((s.freeCellList (realCells head.entries)).modGroup g fun x => { x with queue := rest }).dropRefs head.entries

/-- A REAL entry's hold store update at the end of its frame: only while the stream is bound to the frame's group and that group is
RUNNING or DRAINING (R30). -/
def State.updateHold (s : State) (g : GroupId) (e : Entry) : State :=
  match e.content with
  | .real c =>
    if (s.stream e.stream).group = some g ∧ (s.group g).state.isActive then
      s.modStream e.stream fun x => { x with holdStore := some (s.payload c x.length) }
    else s
  | .fill _ => s

/-- Hand a close attempt to the close unit of `g` (R81). -/
def State.handAttempt (s : State) (g : GroupId) : State :=
  s.modGroup g fun x => { x with attempts := x.attempts + 1 }

/-- What the leaving of a record brings about for its group: a drain completes when a DRAINING group is left empty (R108), and the
aborting condition ends (R111). -/
def State.afterLeaving (s : State) (g : GroupId) : State :=
  match (s.group g).state with
  | .draining => if (s.group g).isEmpty then s.completeDrain g else s
  | .aborting => s.modGroup g fun x => { x with state := .stopped }
  | .stopped | .running => s

/-! ### Entering and leaving UP -/

/-- A trunk port enters UP: failure run 0, debt 1, the mark timer started if the interval is not 0, and a choice (R120). -/
def State.trunkEnterUp (s : State) (p : TrunkId) : State :=
  (s.modTrunk p fun x =>
    { x with
      link := .up
      failureRun := 0
      markDebt := 1
      markTimer := if x.markInterval = 0 then none else some (s.time + BitVec.ofNat 32 x.markInterval) }).choose p

/-- A merged frame in transmission is lost when its port leaves UP: no hold store is updated, its cells are freed, the record
leaves, FRAMES_LOST_ON_LINK rises, a close attempt is handed, and a drain or the aborting condition may end (R133). -/
def State.loseFrame (s : State) (p : TrunkId) (head : FrameRecord) (rest : List FrameRecord) : State :=
  (((s.removeHead p head rest).countGroup p .framesLostOnLink 1).handAttempt p).afterLeaving p

/-- The leaving-UP effects on the port itself: the transmission is cut once `k` of its bytes are out, credit, debt and queues go, both
timers stop; the starve logged flag keeps its value (R119, R121). -/
def Trunk.leaveUp (x : Trunk) (k : Nat) (next : Link) : Trunk :=
  { x.cutUnit k with
    link := next, aligningRun := if next = .aligning then 0 else x.aligningRun, credit := 0,
    requests := [], replies := [], markDebt := 0, markTimer := none, starveTimer := none }

/-- The two loggings of a leaving of UP that loses a frame, in the free order of log entry 1 (R164). -/
def State.logLoss (s : State) (p : TrunkId) (n : Instant) : State :=
  let t := { s with draws := s.draws + 1 }
  if Config.trunkDownFirst s.draws then
    (t.logFault (portLogging .trunkDown (.trunk p))).logFault (frameLostLogging p n)
  else
    (t.logFault (frameLostLogging p n)).logFault (portLogging .trunkDown (.trunk p))

/-- The frame at the head of a queue that is in transmission, if there is one (R96). -/
def Group.sendingHead (x : Group) : Option (FrameRecord × List FrameRecord) :=
  match x.queue with
  | r :: rest => if r.inTransmission then some (r, rest) else none
  | [] => none

/-- A trunk port leaves UP for `next` (R121), with the loss of a frame in transmission (R133); a soft reset pending on this port is
taken at the same event (R154). -/
def State.trunkLeaveUp (s : State) (p : TrunkId) (next : Link) : State :=
  let t := { s with draws := s.draws + 1 }.modTrunk p fun x => x.leaveUp (s.bytesOut p) next
  let u :=
    match (s.group p).sendingHead with
    | some (head, rest) => (t.loseFrame p head rest).logLoss p head.instant
    | none => t.logFault (portLogging .trunkDown (.trunk p))
  if s.softPending = some p then u.softReset else u

end Sys2Proof.Machine
end

