-- ==== Sys2Proof/Machine/Engine.lean ====
section
/-! DEFINITION. The management engine: which port it serves next (R139), and one taking, from the request's leaving its queue to
the reply's joining its own (R140). -/

namespace Sys2Proof.Machine

/-- A port is eligible when its request queue is not empty and its reply queue holds fewer than 4 replies (R139). -/
def Trunk.eligible (x : Trunk) : Bool := !x.requests.isEmpty && decide (x.replies.length < 4)

/-- The port of the next taking: none while a soft reset is pending, else the first eligible port from the one after the last-served
port (R139). -/
def State.nextTrunk (s : State) : Option TrunkId :=
  if s.softPending.isSome then none
  else if (s.trunk (s.lastTrunk + 1)).eligible then some (s.lastTrunk + 1)
  else if (s.trunk s.lastTrunk).eligible then some s.lastTrunk
  else none

/-- What a request answers: the state after its effects, its status and its result words (R140). -/
structure Answer where
  state : State
  status : Status
  results : List Word

/-- A request refused: "A refused request changes no state", and its reply has no result words (R140). -/
def State.refuse (s : State) (status : Status) : Answer := { state := s, status := status, results := [] }

/-- A request accepted with status OK. -/
def State.accept (s : State) (results : List Word) : Answer := { state := s, status := .ok, results := results }

/-- The reply to a request (R140). -/
def Answer.reply (a : Answer) (r : Request) : Reply :=
  { tag := r.tag, name := r.name, status := a.status, results := a.results }

/-- Place the reply at the tail of the port's reply queue, which prompts the arbiter (R129, R138). -/
def State.placeReply (s : State) (p : TrunkId) (r : Reply) : State :=
  (s.modTrunk p fun x => { x with replies := x.replies ++ [r] }).choose p

/-- The head request leaves its queue, and its port becomes the last-served one (R139). -/
def State.dequeue (s : State) (p : TrunkId) (rest : List Request) : State :=
  { s with lastTrunk := p }.modTrunk p fun x => { x with requests := rest }

/-- One taking of request `r` from port `p`: its effects and its reply, as one event (R139, R140). -/
def State.serve (s : State) (p : TrunkId) (r : Request) (rest : List Request) (act : State → TrunkId → Request → Answer) :
    State :=
  let a := act (s.dequeue p rest) p r
  a.state.placeReply p (a.reply r)

/-- The engine's taking of a request that `mine` says is this command's: made where the request at the head of the chosen port's queue
is one, and otherwise not this event (log entry 4). -/
def State.takeRequest (s : State) (mine : Request → Bool) (act : State → TrunkId → Request → Answer) : State :=
  s.unlessHeld fun s => s.withWaits fun s =>
    match s.nextTrunk with
    | none => s
    | some p =>
      match (s.trunk p).requests with
      | [] => s
      | r :: rest => if mine r then s.serve p r rest act else s

/-- The request bears this name (R175). -/
def Request.named (r : Request) (x : RequestName) : Bool := RequestName.ofCode r.name == some x

end Sys2Proof.Machine
end

