-- ==== Sys2Proof/Machine/FaultRequests.lean ====
section
/-! DEFINITION. FAULT_READ (R149), FAULT_TAKE (R150, R161), FAULT_MASK in its two modes (R151), RESET (R154) and requests whose name
is not defined (R140). -/

namespace Sys2Proof.Machine

/-- FAULT_READ's checks and results (R149). -/
def actFaultRead (s : State) (_p : TrunkId) (r : Request) : Answer :=
  match r.args with
  | [k] =>
    if k.toNat = 0 ∨ 8 < k.toNat then s.refuse .badArgument
    else
      let shown := s.log.records.take k.toNat
      s.accept ([natWord s.log.records.length, flagWord s.log.overflowFlag, natWord s.log.overflowCount, natWord shown.length]
        ++ shown.flatMap faultWords)
  | _ => s.refuse .badLength

/-- FAULT_READ (R149). -/
def execFaultRead (s : State) : Host.Outcome State Fault Refusal :=
  .next (s.takeRequest (fun r => r.named .faultRead) actFaultRead)

/-- The log after a take of the oldest `k` records: the overflow flag is cleared if at least one is removed (R150, R161). -/
def FaultLog.remove (log : FaultLog) (k : Nat) : FaultLog :=
  { log with
    records := log.records.drop k
    overflowFlag := log.overflowFlag && (log.records.take k).isEmpty }

/-- FAULT_TAKE's checks, effects and results (R150). -/
def actFaultTake (s : State) (_p : TrunkId) (r : Request) : Answer :=
  match r.args with
  | [k] =>
    if k.toNat = 0 ∨ 8 < k.toNat then s.refuse .badArgument
    else
      let taken := s.log.records.take k.toNat
      let log := s.log.remove k.toNat
      { s with log := log }.accept
        ([natWord taken.length] ++ taken.flatMap faultWords ++ [natWord log.records.length, flagWord log.overflowFlag])
  | _ => s.refuse .badLength

/-- FAULT_TAKE (R150). -/
def execFaultTake (s : State) : Host.Outcome State Fault Refusal :=
  .next (s.takeRequest (fun r => r.named .faultTake) actFaultTake)

/-- The alert mask as the result word of FAULT_MASK (R151, R175). -/
def maskWord (m : BitVec 13) : Word := m.setWidth 32

/-- FAULT_MASK's checks in order, effects and results, in either mode (R151).  R175 lists the mask among the sets, and refuses a set with
no bit set with BAD_ARGUMENT, which R151's own checks do not name: the model follows R175 (log entry 24). -/
def actFaultMask (s : State) (_p : TrunkId) (r : Request) : Answer :=
  match r.args with
  | [] => s.refuse .badLength
  | mode :: rest =>
    if mode.toNat = 0 then (if rest = [] then s.accept [maskWord s.alertMask] else s.refuse .badLength)
    else if mode.toNat = 1 then
      match rest with
      | [m] =>
        if 1 ≤ m.toNat ∧ m.toNat < 8192 then
          { s with alertMask := m.setWidth 13 }.accept [maskWord (m.setWidth 13)]
        else s.refuse .badArgument
      | _ => s.refuse .badLength
    else s.refuse .badArgument

/-- FAULT_MASK in read mode (R151); a request with no mode, or one above 1, is refused under either command (log entry 4). -/
def execFaultMaskRead (s : State) : Host.Outcome State Fault Refusal :=
  .next (s.takeRequest (fun r => r.named .faultMask && r.args.head? != some 1) actFaultMask)

/-- FAULT_MASK in write mode (R151). -/
def execFaultMaskWrite (s : State) : Host.Outcome State Fault Refusal :=
  .next (s.takeRequest (fun r => r.named .faultMask && r.args.head? != some 0) actFaultMask)

/-- RESET's check and effects: the OK reply, and the soft reset pending on the port (R154). -/
def actReset (s : State) (p : TrunkId) (r : Request) : Answer :=
  if r.args.length ≠ 0 then s.refuse .badLength
  else { s with softPending := some p }.accept []

/-- RESET (R154). -/
def execReset (s : State) : Host.Outcome State Fault Refusal :=
  .next (s.takeRequest (fun r => r.named .reset) actReset)

/-- A request whose name is not defined is refused with BAD_OPCODE (R140). -/
def actUndefined (s : State) (_p : TrunkId) (_r : Request) : Answer := s.refuse .badOpcode

/-- UNDEFINED_REQUEST (R140). -/
def execUndefinedRequest (s : State) : Host.Outcome State Fault Refusal :=
  .next (s.takeRequest (fun r => RequestName.ofCode r.name == none) actUndefined)

end Sys2Proof.Machine
end

