-- ==== Sys2Proof/Machine/GroupRequests.lean ====
section
/-! DEFINITION. GROUP_SET (R103), GROUP_START (R104, R105), GROUP_STOP (R106), GROUP_ABORT (R110), GROUP_STATUS (R143) and ROW_LIST
(R144). -/

namespace Sys2Proof.Machine

/-! ### GROUP_SET (R103) -/

/-- Write one parameter, item `k` of R103's table, with value word `w`: absent when the value lies outside its range. -/
def Group.writeParam (x : Group) (k : Nat) (w : Word) : Option Group :=
  match k with
  | 0 => if 2 ≤ w.toNat ∧ w.toNat ≤ 64 then some { x with depth := w.toNat } else none
  | 1 => if 1 ≤ w.toNat ∧ w.toNat ≤ 65535 then some { x with holdTime := w.toNat } else none
  | 2 =>
    if w.toNat = 0 then some { x with early := .discard }
    else if w.toNat = 1 then some { x with early := .advance }
    else none
  | 3 =>
    if w.toNat = 0 then some { x with empty := .skip }
    else if w.toNat = 1 then some { x with empty := .emit }
    else none
  | _ => none

/-- Write parameter `k` if the set names it. -/
def Group.writeNamed (set : Word) (values : List Word) (x : Group) (k : Nat) : Option Group :=
  match namedValue set values k with
  | some w => x.writeParam k w
  | none => some x

/-- Write every named parameter together; absent when a value lies outside its range (R103). -/
def Group.writeAll (set : Word) (values : List Word) (x : Group) : Option Group :=
  (List.range 4).foldlM (Group.writeNamed set values) x

/-- The four parameters as words, in the order of R103's table. -/
def Group.paramWords (x : Group) : List Word :=
  [natWord x.depth, natWord x.holdTime, natWord x.early.code, natWord x.empty.code]

/-- GROUP_SET's checks in order, effects and results (R103). -/
def actGroupSet (s : State) (_p : TrunkId) (r : Request) : Answer :=
  match r.args with
  | w :: set :: values =>
    if values.length ≠ namedCount 4 set then s.refuse .badLength
    else
      match argGroup w with
      | none => s.refuse .badArgument
      | some g =>
        if setInRange 4 set = false then s.refuse .badArgument
        else
          match (s.group g).writeAll set values with
          | none => s.refuse .badArgument
          | some x =>
            if (s.group g).state.isActive then s.refuse .state
            else (s.setGroup g x).accept x.paramWords
  | _ => s.refuse .badLength

/-- GROUP_SET (R103). -/
def execGroupSet (s : State) : Host.Outcome State Fault Refusal :=
  .next (s.takeRequest (fun r => r.named .groupSet) actGroupSet)

/-! ### GROUP_START, GROUP_STOP -/

/-- A START taken in plain STOPPED: the window cleared, the bound streams WAITING, the group RUNNING (R104). -/
def State.startGroup (s : State) (g : GroupId) : State :=
  (s.modGroup g fun x => { x.clearWindow with state := .running }).restartStreams g

/-- GROUP_START's checks in order, effects and results (R104, R105). -/
def actGroupStart (s : State) (_p : TrunkId) (r : Request) : Answer :=
  match r.args with
  | [w] =>
    match argGroup w with
    | none => s.refuse .badArgument
    | some g =>
      match (s.group g).state with
      | .aborting => s.refuse .state
      | .stopped =>
        if (s.group g).templates.activeSlots = [] then s.refuse .noTemplate
        else (s.startGroup g).accept [natWord GroupState.running.code]
      | .running => s.accept [natWord GroupState.running.code]
      | .draining =>
        (s.modGroup g fun x => { x with state := .running }).accept [natWord GroupState.running.code]
  | _ => s.refuse .badLength

/-- GROUP_START (R104). -/
def execGroupStart (s : State) : Host.Outcome State Fault Refusal :=
  .next (s.takeRequest (fun r => r.named .groupStart) actGroupStart)

/-- The effects of a GROUP_STOP (R106). -/
def State.stopGroup (s : State) (g : GroupId) : State :=
  match (s.group g).state with
  | .running =>
    if (s.group g).isEmpty then s.completeDrain g
    else s.modGroup g fun x => { x with state := .draining }
  | .draining | .stopped | .aborting => s

/-- GROUP_STOP's checks, effects and results (R106). -/
def actGroupStop (s : State) (_p : TrunkId) (r : Request) : Answer :=
  match r.args with
  | [w] =>
    match argGroup w with
    | none => s.refuse .badArgument
    | some g => (s.stopGroup g).accept [natWord ((s.stopGroup g).group g).state.code]
  | _ => s.refuse .badLength

/-- GROUP_STOP (R106). -/
def execGroupStop (s : State) : Host.Outcome State Fault Refusal :=
  .next (s.takeRequest (fun r => r.named .groupStop) actGroupStop)

/-! ### GROUP_ABORT (R110) -/

/-- The records that an abort discards: those not in transmission (R110). -/
def Group.discardable (x : Group) : List FrameRecord := x.queue.filter fun r => !r.inTransmission

/-- The record that an abort leaves: the one in transmission (R110, R111). -/
def Group.kept (x : Group) : List FrameRecord := x.queue.filter fun r => r.inTransmission

/-- Steps 2 and 3 of R110: every open row and its cells, and every record not in transmission and its cells, are released, in instant
order and then in queue order (log entry 9). -/
def State.releaseAll (s : State) (g : GroupId) : State :=
  let x := s.group g
  let t := (s.freeRowList (x.rows.map Row.rowId)).freeCellList
    (x.rows.flatMap Row.cellList ++ x.discardable.flatMap fun r => realCells r.entries)
  (t.modGroup g fun y => { y with rows := [], queue := x.kept }).dropRefs (x.discardable.flatMap FrameRecord.entries)

/-- The state an abort enters: the aborting condition where a record is in transmission (R110 step 7). -/
def abortState (kept : List FrameRecord) : GroupState :=
  match kept with
  | [] => .stopped
  | _ :: _ => .aborting

/-- The effects of a GROUP_ABORT, in the order of R110. -/
def State.abortGroup (s : State) (g : GroupId) : State :=
  let t := ((s.takeSwitch g).releaseAll g).modGroup g Group.clearWindow
  ((t.restartStreams g).countGroup g .aborts 1).modGroup g fun x => { x with state := abortState x.queue }

/-- GROUP_ABORT's checks, effects and results (R110). -/
def actGroupAbort (s : State) (_p : TrunkId) (r : Request) : Answer :=
  match r.args with
  | [w] =>
    match argGroup w with
    | none => s.refuse .badArgument
    | some g =>
      (s.abortGroup g).accept
        [natWord (abortState (s.group g).kept).code, natWord (s.group g).rows.length,
         natWord (s.group g).discardable.length, natWord (s.group g).kept.length]
  | _ => s.refuse .badLength

/-- GROUP_ABORT (R110). -/
def execGroupAbort (s : State) : Host.Outcome State Fault Refusal :=
  .next (s.takeRequest (fun r => r.named .groupAbort) actGroupAbort)

/-! ### GROUP_STATUS (R143) -/

/-- The result words of GROUP_STATUS: the group and its trunk port (R143). -/
def State.groupWords (s : State) (g : GroupId) : List Word :=
  let x := s.group g
  let t := s.trunk g
  [natWord x.state.code]
    ++ optionalWords (x.cursor.map fun e => [e])
    ++ [natWord x.rows.length, natWord x.lateRun, natWord x.queue.length, flagWord x.headSending,
        natWord x.templates.activeGen.toNat]
    ++ optionalWords (x.templates.armed.map fun a => [natWord a.generation.toNat, a.switchAt])
    ++ x.paramWords
    ++ [natWord s.freeRows.length, natWord s.freeCells.length, natWord t.link.code, natWord t.credit, natWord t.markDebt,
        natWord t.markInterval, natWord t.starveLimit, flagWord t.starveLogged]

/-- GROUP_STATUS's checks and results (R143). -/
def actGroupStatus (s : State) (_p : TrunkId) (r : Request) : Answer :=
  match r.args with
  | [w] =>
    match argGroup w with
    | none => s.refuse .badArgument
    | some g => s.accept (s.groupWords g)
  | _ => s.refuse .badLength

/-- GROUP_STATUS (R143). -/
def execGroupStatus (s : State) : Host.Outcome State Fault Refusal :=
  .next (s.takeRequest (fun r => r.named .groupStatus) actGroupStatus)

/-! ### ROW_LIST (R144) -/

/-- The six words of an open row (R144). -/
def State.rowWords (s : State) (g : GroupId) (r : Row) : List Word :=
  [r.instant, natWord r.generation.toNat, natWord ((s.group g).rowDue r), natWord r.present, flagWord ((s.group g).rowRipe r),
   natWord (s.rowWait r)]

/-- ROW_LIST's checks and results (R144). -/
def actRowList (s : State) (_p : TrunkId) (r : Request) : Answer :=
  match r.args with
  | [w, start] =>
    match argGroup w with
    | none => s.refuse .badArgument
    | some g =>
      if 63 < start.toNat then s.refuse .badArgument
      else
        let shown := ((s.group g).rows.drop start.toNat).take 16
        s.accept ([natWord (s.group g).rows.length, natWord shown.length] ++ shown.flatMap (s.rowWords g))
  | _ => s.refuse .badLength

/-- ROW_LIST (R144). -/
def execRowList (s : State) : Host.Outcome State Fault Refusal :=
  .next (s.takeRequest (fun r => r.named .rowList) actRowList)

end Sys2Proof.Machine
end

