-- ==== Sys2Proof/Machine/NodePorts.lean ====
section
/-! DEFINITION. The events on a node port's line (R3 to R14).  A reset pin that holds the part holds the receivers (R153): the
line's level is kept, and nothing else changes. -/

namespace Sys2Proof.Machine

/-! ### Shared operations -/

/-- The leaving-UP effects on the port: every message of the FIFO is removed and counted in FLUSHED, and the overflow episode is
closed (R7). -/
def NodePort.flush (x : NodePort) : NodePort :=
  { x with fifo := [], episodeOpen := false, counters := raise x.counters PortCounter.flushed.index x.fifo.length }

/-- The port enters DOWN, with the leaving-UP effects if it was UP; a unit in reception is dropped (R3, R4). -/
def NodePort.goDown (x : NodePort) : NodePort :=
  match x.link with
  | .up => { x.flush with link := .down, reception := none }
  | .aligning | .down => { x with link := .down, reception := none }

/-- The port enters ALIGNING with its aligning run at 0 (R3, R4). -/
def NodePort.startAligning (x : NodePort) : NodePort :=
  { x with link := .aligning, aligningRun := 0 }

/-- One step toward alignment: at 4 the port enters UP with failure run 0 (R5). -/
def NodePort.alignStep (x : NodePort) : NodePort :=
  if 4 ≤ x.aligningRun + 1 then { x with aligningRun := 4, link := .up, failureRun := 0 }
  else { x with aligningRun := x.aligningRun + 1 }

/-- What breaks the aligning run sets it to 0 (R5). -/
def NodePort.alignBreak (x : NodePort) : NodePort := { x with aligningRun := 0 }

/-- A received unit in UP fails its CRC check: CHECK_ERRORS and the failure run rise, and at 8 alignment is lost (R6, R9). -/
def State.nodeCheckError (s : State) (p : NodeId) : State :=
  let t := s.modNode p fun x =>
    { x with counters := raise x.counters PortCounter.checkErrors.index 1, failureRun := x.failureRun + 1 }
  if 8 ≤ (t.node p).failureRun then
    (t.modNode p fun x => x.flush.startAligning).logFault (portLogging .portAlignLost (.node p))
  else t

/-- A malformed unit in UP: discarded and counted, its good CRC having set the failure run to 0 (R6, R10). -/
def State.nodeMalformed (s : State) (p : NodeId) : State :=
  s.modNode p fun x => { x with counters := raise x.counters PortCounter.malformed.index 1, failureRun := 0 }

/-- A full FIFO refuses a message: FIFO_OVERFLOW rises, and the refusal that opens an episode logs PORT_FIFO_OVERFLOW (R13). -/
def State.refuseMessage (s : State) (p : NodeId) : State :=
  let t := s.modNode p fun x =>
    { x with counters := raise x.counters PortCounter.fifoOverflow.index 1, episodeOpen := true }
  if (s.node p).episodeOpen then t else t.logFault (portLogging .portFifoOverflow (.node p))

/-- A good message is offered to the ingress FIFO, which places it behind the others or refuses it (R12, R13). -/
def State.offerMessage (s : State) (p : NodeId) (m : SampleMsg) : State :=
  if (s.node p).fifo.length < 4 then s.modNode p fun x => { x with fifo := x.fifo ++ [m] }
  else s.refuseMessage p

/-- A good SAMPLE message received in UP: failure run 0, MESSAGES_GOOD rises, and the message is offered to the FIFO (R6, R11). -/
def State.nodeGood (s : State) (p : NodeId) (m : SampleMsg) : State :=
  (s.modNode p fun x =>
    { x with counters := raise x.counters PortCounter.messagesGood.index 1, failureRun := 0 }).offerMessage p m

/-- A received unit, judged by a port in UP (R9 to R11). -/
def State.nodeReceive (s : State) (p : NodeId) (v : SampleVerdict) : State :=
  match v with
  | .badCrc => s.nodeCheckError p
  | .badLength => s.nodeMalformed p
  | .good m => s.nodeGood p m

/-- A received unit, recognised by a port in ALIGNING (R5). -/
def NodePort.alignUnit (x : NodePort) (v : SampleVerdict) : NodePort :=
  match v with
  | .good _ => x.alignStep
  | .badCrc | .badLength => x.alignBreak

/-- A unit ends: what was in reception and what the end brings are its contents, and nothing is in reception after it (R8). -/
def State.closeReception (s : State) (p : NodeId) : State :=
  s.modNode p fun x => { x with reception := none }

/-! ### Commands -/

/-- The effect of a signal present event (R3). -/
def NodePort.signalPresent (x : NodePort) : NodePort :=
  if x.enabled ∧ x.link = .down then { x with line := true, present := true }.startAligning
  else { x with line := true, present := true }

/-- NODE_SIGNAL_PRESENT (R3). -/
def execNodeSignalPresent (p : NodeId) (s : State) : Host.Outcome State Fault Refusal :=
  .next (if s.held then s.modNode p fun x => { x with line := true } else s.modNode p NodePort.signalPresent)

/-- The effect of a signal loss (R3). -/
def NodePort.signalLoss (x : NodePort) : NodePort :=
  { x with line := false, present := false }.goDown

/-- NODE_SIGNAL_LOSS (R3, R7). -/
def execNodeSignalLoss (p : NodeId) (s : State) : Host.Outcome State Fault Refusal :=
  .next (if s.held then s.modNode p fun x => { x with line := false } else s.modNode p NodePort.signalLoss)

/-- The effect of an idle sequence: one step in ALIGNING, nothing in UP or DOWN (R5, R6). -/
def NodePort.idleSequence (x : NodePort) : NodePort :=
  match x.link with
  | .aligning => x.alignStep
  | .up | .down => x

/-- NODE_IDLE_SEQUENCE (R5). -/
def execNodeIdleSequence (p : NodeId) (s : State) : Host.Outcome State Fault Refusal :=
  .next (s.unlessHeld fun s => s.modNode p NodePort.idleSequence)

/-- NODE_UNIT_END (R8): the received unit is checked in UP, counts toward alignment in ALIGNING, and is ignored in DOWN (R4). -/
def execNodeUnitEnd (p : NodeId) (symbols : List LineSymbol) (s : State) : Host.Outcome State Fault Refusal :=
  .next (s.unlessHeld fun s =>
    let v := judgeSample ((s.node p).reception.getD [] ++ symbols)
    match (s.node p).link with
    | .down => s
    | .aligning => (s.closeReception p).modNode p fun x => x.alignUnit v
    | .up => (s.closeReception p).nodeReceive p v)

/-- What is in reception after a truncated unit: nothing, or the unit that a start delimiter begins (R8). -/
def afterTruncation : Truncation → Option (List LineSymbol)
  | .byAbort => none
  | .byStart => some []

/-- NODE_TRUNCATED_UNIT (R8): the unit is discarded and counted nowhere; both runs stay. -/
def execNodeTruncatedUnit (p : NodeId) (ending : Truncation) (s : State) : Host.Outcome State Fault Refusal :=
  .next (s.unlessHeld fun s =>
    match (s.node p).link with
    | .down => s
    | .aligning | .up => s.modNode p fun x => { x with reception := afterTruncation ending })

/-- NODE_STRAY_SYMBOL (R8, R170): in ALIGNING the run is set to 0; in UP the gathered symbols are one received unit that fails its
CRC check. -/
def execNodeStraySymbol (p : NodeId) (_symbols : List LineSymbol) (s : State) : Host.Outcome State Fault Refusal :=
  .next (s.unlessHeld fun s =>
    match (s.node p).link with
    | .down => s
    | .aligning => s.modNode p NodePort.alignBreak
    | .up => s.nodeCheckError p)

end Sys2Proof.Machine
end

