-- ==== Sys2Proof/Machine/ResetPins.lean ====
section
/-! DEFINITION. The commands on the two reset pins (R153). -/

namespace Sys2Proof.Machine

/-- POWER_ON_RESET (R153): PORn is asserted; it supersedes any pin reset and any pending soft reset. -/
def execPowerOnReset (s : State) : Host.Outcome State Fault Refusal :=
  .next s.powerOn

/-- The release of PORn (R153): the time count starts from 0 and the ports look at their lines.  Where RESET_N is low at that moment
it is asserted "while PORn is released", so that the pin reset is taken and goes on holding the part (R153, R167; log entry 7). -/
def State.releasePower (s : State) : State :=
  if s.resetNLow then s.pinReset else s.release

/-- POWER_ON_RESET_RELEASE (R153). -/
def execPowerOnResetRelease (s : State) : Host.Outcome State Fault Refusal :=
  .next (if s.hold = .power then s.releasePower else s)

/-- PIN_RESET (R153): RESET_N is asserted; "A pin reset is taken when RESET_N is asserted while PORn is released" (log entry 7). -/
def execPinReset (s : State) : Host.Outcome State Fault Refusal :=
  .next (let t := { s with resetNLow := true }
    if s.hold = .none then t.pinReset else t)

/-- PIN_RESET_RELEASE (R153): RESET_N is released; the ports look at their lines again. -/
def execPinResetRelease (s : State) : Host.Outcome State Fault Refusal :=
  .next (let t := { s with resetNLow := false }
    if s.hold = .pin then t.release else t)

end Sys2Proof.Machine
end

