-- ==== Sys2Proof/Machine/SettingRequests.lean ====
section
/-! DEFINITION. PORT_STATUS (R145), PORT_SET (R146, R4), TRUNK_SET (R147, R128) and READ_COUNTERS (R148). -/

namespace Sys2Proof.Machine

/-! ### Node ports -/

/-- The three words of a node port (R145). -/
def NodePort.statusWords (x : NodePort) : List Word :=
  [flagWord x.enabled, natWord x.link.code, natWord x.fifo.length]

/-- PORT_STATUS's check and results (R145). -/
def actPortStatus (s : State) (_p : TrunkId) (r : Request) : Answer :=
  if r.args.length ≠ 0 then s.refuse .badLength
  else s.accept (s.nodes.toList.flatMap NodePort.statusWords)

/-- PORT_STATUS (R145). -/
def execPortStatus (s : State) : Host.Outcome State Fault Refusal :=
  .next (s.takeRequest (fun r => r.named .portStatus) actPortStatus)

/-- A change of a port's enable; "A write of the value the port already holds has no effect" (R4). -/
def NodePort.setEnabled (x : NodePort) (value : Bool) : NodePort :=
  if x.enabled = value then x
  else if value then
    if x.present then { x with enabled := true }.startAligning else { x with enabled := true }
  else { x with enabled := false }.goDown

/-- Every named port takes the value (R146). -/
def State.setPorts (s : State) (set : Word) (value : Bool) : State :=
  { s with nodes := s.nodes.mapFinIdx fun i x _ => if set.getLsbD i then x.setEnabled value else x }

/-- PORT_SET's checks in order, effects and results (R146). -/
def actPortSet (s : State) (_p : TrunkId) (r : Request) : Answer :=
  match r.args with
  | [set, value] =>
    if setInRange 16 set = false ∨ 1 < value.toNat then s.refuse .badArgument
    else
      let t := s.setPorts set (value == 1)
      t.accept (t.nodes.toList.map fun x => flagWord x.enabled)
  | _ => s.refuse .badLength

/-- PORT_SET (R146). -/
def execPortSet (s : State) : Host.Outcome State Fault Refusal :=
  .next (s.takeRequest (fun r => r.named .portSet) actPortSet)

/-! ### TRUNK_SET -/

/-- A change of the mark interval: a running timer stops, and one starts afresh if the port is UP and the interval is not 0
(R128).  MODEL'S CHOICE: naming the value already held restarts the timer too (log entry 23). -/
def State.setMarkInterval (s : State) (p : TrunkId) (n : Nat) : State :=
  s.modTrunk p fun x =>
    { x with
      markInterval := n
      markTimer := if x.link = .up ∧ n ≠ 0 then some (s.time + BitVec.ofNat 32 n) else none }

/-- A change of the starve limit: a running timer stops, and one starts afresh if a credit wait holds, the limit is not 0 and the
logged flag is clear (R128).  MODEL'S CHOICE: naming the value already held restarts the timer too (log entry 23). -/
def State.setStarveLimit (s : State) (p : TrunkId) (n : Nat) : State :=
  s.modTrunk p fun x =>
    { x with
      starveLimit := n
      starveTimer :=
        if s.creditWait p ∧ n ≠ 0 ∧ x.starveLogged = false then some (s.time + BitVec.ofNat 32 (n * 1000)) else none }

/-- The mark interval is 0 or 10..65,535, and the starve limit 0..255 (R147). -/
def trunkSetInRange (interval limit : Option Word) : Bool :=
  (match interval with
    | some w => w.toNat == 0 || decide (10 ≤ w.toNat ∧ w.toNat ≤ 65535)
    | none => true)
  && (match limit with
    | some w => decide (w.toNat ≤ 255)
    | none => true)

/-- The named settings take their values (R147). -/
def State.setTrunkParams (s : State) (p : TrunkId) (interval limit : Option Word) : State :=
  let t := match interval with
    | some w => s.setMarkInterval p w.toNat
    | none => s
  match limit with
  | some w => t.setStarveLimit p w.toNat
  | none => t

/-- TRUNK_SET's checks in order, effects and results (R147). -/
def actTrunkSet (s : State) (_p : TrunkId) (r : Request) : Answer :=
  match r.args with
  | w :: set :: values =>
    if values.length ≠ namedCount 2 set then s.refuse .badLength
    else
      match argGroup w with
      | none => s.refuse .badArgument
      | some q =>
        if setInRange 2 set = false ∨ trunkSetInRange (namedValue set values 0) (namedValue set values 1) = false then
          s.refuse .badArgument
        else
          let t := s.setTrunkParams q (namedValue set values 0) (namedValue set values 1)
          t.accept [natWord (t.trunk q).markInterval, natWord (t.trunk q).starveLimit]
  | _ => s.refuse .badLength

/-- TRUNK_SET (R147). -/
def execTrunkSet (s : State) : Host.Outcome State Fault Refusal :=
  .next (s.takeRequest (fun r => r.named .trunkSet) actTrunkSet)

/-! ### READ_COUNTERS -/

/-- The owner of a counter set: a scope and an index in its range (R148). -/
inductive Owner where
  | stream (i : StreamId)
  | node (p : NodeId)
  | group (g : GroupId)
  | trunk (p : TrunkId)
  deriving DecidableEq, Repr

/-- The owner that a scope and an index name, if they do (R148). -/
def ownerOf (scope index : Word) : Option Owner :=
  if scope.toNat = 0 then (argStream index).map Owner.stream
  else if scope.toNat = 1 then (argNode index).map Owner.node
  else if scope.toNat = 2 then (argGroup index).map Owner.group
  else if scope.toNat = 3 then (argGroup index).map Owner.trunk
  else none

/-- The counters of an owner, in the order of its counter table (R148). -/
def State.countersOf (s : State) : Owner → List Nat
  | .stream i => (s.stream i).counters.toList
  | .node p => (s.node p).counters.toList
  | .group g => (s.group g).counters.toList
  | .trunk p => (s.trunk p).counters.toList

/-- Every counter of an owner set to 0 (R148, R169). -/
def State.clearCounters (s : State) : Owner → State
  | .stream i => s.modStream i fun x => { x with counters := Vector.replicate 12 0 }
  | .node p => s.modNode p fun x => { x with counters := Vector.replicate 7 0 }
  | .group g => s.modGroup g fun x => { x with counters := Vector.replicate 12 0 }
  | .trunk p => s.modTrunk p fun x => { x with counters := Vector.replicate 6 0 }

/-- READ_COUNTERS's checks in order, effects and results: the values are those before any clearing (R148). -/
def actReadCounters (s : State) (_p : TrunkId) (r : Request) : Answer :=
  match r.args with
  | [scope, index, clear] =>
    match ownerOf scope index with
    | none => s.refuse .badArgument
    | some o =>
      if 1 < clear.toNat then s.refuse .badArgument
      else
        (if clear.toNat = 1 then s.clearCounters o else s).accept (scope :: index :: (s.countersOf o).map natWord)
  | _ => s.refuse .badLength

/-- READ_COUNTERS (R148). -/
def execReadCounters (s : State) : Host.Outcome State Fault Refusal :=
  .next (s.takeRequest (fun r => r.named .readCounters) actReadCounters)

end Sys2Proof.Machine
end

