-- ==== Sys2Proof/Machine/StreamRequests.lean ====
section
/-! DEFINITION. PING (R141), READ_STREAM (R142) and WRITE_STREAM (R33 to R36). -/

namespace Sys2Proof.Machine

/-- Part code and revision that PING reports (R141). -/
def identity : List Word := [natWord 1602, natWord 1]

/-- PING's checks, effects and results (R141). -/
def actPing (s : State) (p : TrunkId) (r : Request) : Answer :=
  if r.args.length ≠ 0 then s.refuse .badLength
  else s.accept (identity ++ [natWord s.cause.code, natWord s.softCount, natWord p.val, s.time])

/-- PING (R141). -/
def execPing (s : State) : Host.Outcome State Fault Refusal :=
  .next (s.takeRequest (fun r => r.named .ping) actPing)

/-- The eight configuration fields as words, in the order of R33's table. -/
def Stream.configWords (x : Stream) : List Word :=
  [flagWord x.enabled, natWord x.port.val, natWord x.length, BitVec.ofInt 32 x.offset, natWord x.fillPolicy.code, x.fillConstant,
   natWord x.dupPolicy.code, natWord x.threshold]

/-- The result words of READ_STREAM (R142); the hold store's valid flag is the presence word of its words (log entry 8). -/
def Stream.statusWords (x : Stream) : List Word :=
  x.configWords ++ [natWord (groupCode x.group), natWord x.state.code, natWord x.fillRun, natWord x.refs]
    ++ optionalWords (x.holdStore.map (exactWords x.length))

/-- READ_STREAM's checks and results (R142). -/
def actReadStream (s : State) (_p : TrunkId) (r : Request) : Answer :=
  match r.args with
  | [w] =>
    match argStream w with
    | some i => s.accept (s.stream i).statusWords
    | none => s.refuse .badArgument
  | _ => s.refuse .badLength

/-- READ_STREAM (R142). -/
def execReadStream (s : State) : Host.Outcome State Fault Refusal :=
  .next (s.takeRequest (fun r => r.named .readStream) actReadStream)

/-- Write one configuration field, item `k` of R33's table, with value word `w`: absent when the value lies outside its range. -/
def Stream.writeField (x : Stream) (k : Nat) (w : Word) : Option Stream :=
  match k with
  | 0 => if w.toNat ≤ 1 then some { x with enabled := w == 1 } else none
  | 1 => (argNode w).map fun p => { x with port := p }
  | 2 => if 1 ≤ w.toNat ∧ w.toNat ≤ 8 then some { x with length := w.toNat } else none
  | 3 => if -32 ≤ w.toInt ∧ w.toInt ≤ 32 then some { x with offset := w.toInt } else none
  | 4 =>
    if w.toNat = 0 then some { x with fillPolicy := .zero }
    else if w.toNat = 1 then some { x with fillPolicy := .hold }
    else if w.toNat = 2 then some { x with fillPolicy := .constant }
    else none
  | 5 => some { x with fillConstant := w }
  | 6 =>
    if w.toNat = 0 then some { x with dupPolicy := .keepFirst }
    else if w.toNat = 1 then some { x with dupPolicy := .keepLast }
    else none
  | 7 => if 1 ≤ w.toNat ∧ w.toNat ≤ 255 then some { x with threshold := w.toNat } else none
  | _ => none

/-- Write field `k` if the set names it. -/
def Stream.writeNamed (set : Word) (values : List Word) (x : Stream) (k : Nat) : Option Stream :=
  match namedValue set values k with
  | some w => x.writeField k w
  | none => some x

/-- Write every named field together; absent when a value lies outside its range (R33). -/
def Stream.writeAll (set : Word) (values : List Word) (x : Stream) : Option Stream :=
  (List.range 8).foldlM (Stream.writeNamed set values) x

/-- The write is refused with IN_USE: it names a restricted field and the stream is not UNBOUND, or it names the payload length and
frame references are above 0 (R35). -/
def Stream.writeForbidden (x : Stream) (set : Word) : Bool :=
  let restricted := set.getLsbD 0 || set.getLsbD 1 || set.getLsbD 2 || set.getLsbD 3
  restricted && (x.state != .unbound || (set.getLsbD 2 && decide (0 < x.refs)))

/-- WRITE_STREAM's checks in order, effects and results (R33). -/
def actWriteStream (s : State) (_p : TrunkId) (r : Request) : Answer :=
  match r.args with
  | w :: set :: values =>
    if values.length ≠ namedCount 8 set then s.refuse .badLength
    else
      match argStream w with
      | none => s.refuse .badArgument
      | some i =>
        if setInRange 8 set = false then s.refuse .badArgument
        else
          match (s.stream i).writeAll set values with
          | none => s.refuse .badArgument
          | some x =>
            if (s.stream i).writeForbidden set then s.refuse .inUse
            else (s.setStream i x).accept [natWord x.state.code, natWord x.fillRun]
  | _ => s.refuse .badLength

/-- WRITE_STREAM (R33). -/
def execWriteStream (s : State) : Host.Outcome State Fault Refusal :=
  .next (s.takeRequest (fun r => r.named .writeStream) actWriteStream)

end Sys2Proof.Machine
end

