-- ==== Sys2Proof/Machine/TemplateRequests.lean ====
section
/-! DEFINITION. TEMPLATE_LOAD (R43), TEMPLATE_COPY (R44), TEMPLATE_READ (R45), TEMPLATE_COMMIT (R47 to R49) and TEMPLATE_CANCEL
(R54). -/

namespace Sys2Proof.Machine

/-- One slot descriptor from its three words: absent when the stream is above 63, the cadence other than 1, 2, 4 or 8, or the phase
at or above the cadence (R40, R43). -/
def slotOfWords (w c f : Word) : Option Slot :=
  match argStream w with
  | none => none
  | some i =>
    if (c.toNat = 1 ∨ c.toNat = 2 ∨ c.toNat = 4 ∨ c.toNat = 8) ∧ f.toNat < c.toNat then
      some { stream := i, cadence := c.toNat, phase := f.toNat }
    else none

/-- The slot list that a TEMPLATE_LOAD carries, three words a slot; absent when a word lies outside its range (R43). -/
def slotsOfWords : List Word → Option (List Slot)
  | w :: c :: f :: rest =>
    match slotOfWords w c f, slotsOfWords rest with
    | some x, some xs => some (x :: xs)
    | _, _ => none
  | [] => some []
  | _ => none

/-- No stream appears in more than one slot of the list (R42). -/
def slotsDistinct : List Slot → Bool
  | [] => true
  | x :: rest => !namesStream rest x.stream && slotsDistinct rest

/-- Every stream of the list is enabled in the stream table (R43). -/
def State.slotsEnabled (s : State) (slots : List Slot) : Bool :=
  slots.all fun x => (s.stream x.stream).enabled

/-- TEMPLATE_LOAD's checks in order, effects and results (R43). -/
def actTemplateLoad (s : State) (_p : TrunkId) (r : Request) : Answer :=
  match r.args with
  | w :: count :: rest =>
    if rest.length ≠ 3 * count.toNat then s.refuse .badLength
    else
      match argGroup w, slotsOfWords rest with
      | some g, some slots =>
        if 32 < slots.length then s.refuse .badArgument
        else if (s.group g).templates.armed.isSome then s.refuse .locked
        else if slotsDistinct slots = false ∨ s.slotsEnabled slots = false then s.refuse .conflict
        else
          (s.modGroup g fun x => { x with templates := { x.templates with otherSlots := slots } }).accept [natWord slots.length]
      | _, _ => s.refuse .badArgument
  | _ => s.refuse .badLength

/-- TEMPLATE_LOAD (R43). -/
def execTemplateLoad (s : State) : Host.Outcome State Fault Refusal :=
  .next (s.takeRequest (fun r => r.named .templateLoad) actTemplateLoad)

/-- TEMPLATE_COPY's checks in order, effects and results (R44). -/
def actTemplateCopy (s : State) (_p : TrunkId) (r : Request) : Answer :=
  match r.args with
  | [w] =>
    match argGroup w with
    | none => s.refuse .badArgument
    | some g =>
      if (s.group g).templates.armed.isSome then s.refuse .locked
      else
        (s.modGroup g fun x => { x with templates := { x.templates with otherSlots := x.templates.activeSlots } }).accept
          [natWord (s.group g).templates.activeSlots.length]
  | _ => s.refuse .badLength

/-- TEMPLATE_COPY (R44). -/
def execTemplateCopy (s : State) : Host.Outcome State Fault Refusal :=
  .next (s.takeRequest (fun r => r.named .templateCopy) actTemplateCopy)

/-- The result words of TEMPLATE_READ for bank `b` (R45). -/
def Templates.bankWords (t : Templates) (b : BankLetter) : List Word :=
  [natWord b.code, natWord (t.role b).code]
    ++ optionalWords ((t.bankGen b).map fun x => [natWord x.toNat])
    ++ optionalWords (if b = t.activeBank then none else t.armed.map fun a => [a.switchAt])
    ++ [natWord (t.bankSlots b).length]
    ++ (t.bankSlots b).flatMap slotWords

/-- TEMPLATE_READ's checks and results (R45). -/
def actTemplateRead (s : State) (_p : TrunkId) (r : Request) : Answer :=
  match r.args with
  | [w, selector] =>
    match argGroup w with
    | none => s.refuse .badArgument
    | some g =>
      if selector.toNat = 0 then s.accept ((s.group g).templates.bankWords (s.group g).templates.activeBank)
      else if selector.toNat = 1 then s.accept ((s.group g).templates.bankWords (s.group g).templates.activeBank.other)
      else s.refuse .badArgument
  | _ => s.refuse .badLength

/-- TEMPLATE_READ (R45). -/
def execTemplateRead (s : State) : Host.Outcome State Fault Refusal :=
  .next (s.takeRequest (fun r => r.named .templateRead) actTemplateRead)

/-- A stream of the list is not enabled, or is bound to the other group (R47). -/
def State.commitConflict (s : State) (g : GroupId) (slots : List Slot) : Bool :=
  slots.any fun x => !(s.stream x.stream).enabled || ((s.stream x.stream).group.isSome && (s.stream x.stream).group != some g)

/-- An immediate commit: the IDLE bank becomes ACTIVE with the next generation, the old ACTIVE bank IDLE with its list; streams
newly present are bound and streams left out are unbound (R48). -/
def State.commitNow (s : State) (g : GroupId) : State :=
  let t := s.bindNew g (s.group g).templates.otherSlots
  (t.modGroup g fun x => { x with templates := x.templates.swap (x.templates.activeGen + 1) }).unbindUnnamed g

/-- An armed commit for switch instant `n`: the IDLE bank becomes ARMED with the ACTIVE generation plus 1, and streams newly present
are bound at once (R49). -/
def State.commitArmed (s : State) (g : GroupId) (n : Instant) : State :=
  (s.bindNew g (s.group g).templates.otherSlots).modGroup g fun x =>
    { x with templates := { x.templates with armed := some { generation := x.templates.activeGen + 1, switchAt := n } } }

/-- The switch instant of an armed commit at cursor `e`: E + D in mode NEXT, the instant carried in mode AT; absent where it is
refused with TOO_SOON (R49). -/
def Group.switchInstant (x : Group) (e : Instant) (atMode : Bool) (n : Instant) : Option Instant :=
  let earliest := e + BitVec.ofNat 32 x.depth
  if atMode then
    if atOrAfter n earliest ∧ distance e n < 2147483648 then some n else none
  else some earliest

/-- TEMPLATE_COMMIT's checks in order, effects and results (R47). -/
def actTemplateCommit (s : State) (_p : TrunkId) (r : Request) : Answer :=
  match r.args with
  | [w, mode, n] =>
    match argGroup w with
    | none => s.refuse .badArgument
    | some g =>
      if 1 < mode.toNat then s.refuse .badArgument
      else if (s.group g).templates.armed.isSome then s.refuse .locked
      else if s.commitConflict g (s.group g).templates.otherSlots then s.refuse .conflict
      else
        let gen := (s.group g).templates.activeGen + 1
        match (s.group g).cursor with
        | none => (s.commitNow g).accept ([natWord 0, natWord gen.toNat] ++ optionalWords none)
        | some e =>
          match (s.group g).switchInstant e (mode.toNat == 1) n with
          | none => s.refuse .tooSoon
          | some at_ => (s.commitArmed g at_).accept ([natWord 1, natWord gen.toNat] ++ optionalWords (some [at_]))
  | _ => s.refuse .badLength

/-- TEMPLATE_COMMIT (R47). -/
def execTemplateCommit (s : State) : Host.Outcome State Fault Refusal :=
  .next (s.takeRequest (fun r => r.named .templateCommit) actTemplateCommit)

/-- An accepted cancel: the ARMED bank becomes IDLE and keeps its list, and the streams that only it named are unbound (R54). -/
def State.cancelArmed (s : State) (g : GroupId) : State :=
  (s.modGroup g fun x => { x with templates := { x.templates with armed := none } }).unbindUnnamed g

/-- TEMPLATE_CANCEL's checks in order, effects and results (R54). -/
def actTemplateCancel (s : State) (_p : TrunkId) (r : Request) : Answer :=
  match r.args with
  | [w] =>
    match argGroup w with
    | none => s.refuse .badArgument
    | some g =>
      match (s.group g).templates.armed with
      | none => s.refuse .state
      | some a =>
        if (s.group g).rows.any fun x => x.generation == a.generation then s.refuse .inUse
        else (s.cancelArmed g).accept [natWord a.generation.toNat]
  | _ => s.refuse .badLength

/-- TEMPLATE_CANCEL (R54). -/
def execTemplateCancel (s : State) : Host.Outcome State Fault Refusal :=
  .next (s.takeRequest (fun r => r.named .templateCancel) actTemplateCancel)

end Sys2Proof.Machine
end

