-- ==== Sys2Proof/Machine/TrunkPorts.lean ====
section
/-! DEFINITION. The events on a trunk port's line (R118 to R123), its two timers (R125, R126) and the ends of its transmissions
(R127, R132, R134). -/

namespace Sys2Proof.Machine

/-! ### Shared operations -/

/-- One step toward alignment: at 4 the port enters UP (R5, R118, R120). -/
def State.trunkAlignStep (s : State) (p : TrunkId) : State :=
  let t := s.modTrunk p fun x => { x with aligningRun := min (x.aligningRun + 1) 4 }
  if 4 ≤ (s.trunk p).aligningRun + 1 then t.trunkEnterUp p else t

/-- What breaks the aligning run sets it to 0 (R5, R118). -/
def Trunk.alignBreak (x : Trunk) : Trunk := { x with aligningRun := 0 }

/-- A received unit in UP fails its CRC check: CHECK_ERRORS_IN and the failure run rise, and at 8 the port enters ALIGNING with the
leaving-UP effects (R118, R122). -/
def State.trunkCheckError (s : State) (p : TrunkId) : State :=
  let t := s.modTrunk p fun x =>
    { x with counters := raise x.counters TrunkCounter.checkErrorsIn.index 1, failureRun := x.failureRun + 1 }
  if 8 ≤ (t.trunk p).failureRun then t.trunkLeaveUp p .aligning else t

/-- A unit in UP with a good CRC and a bad form: counted, its good CRC having set the failure run to 0 (R122). -/
def State.trunkBadForm (s : State) (p : TrunkId) : State :=
  s.modTrunk p fun x => { x with counters := raise x.counters TrunkCounter.checkErrorsIn.index 1, failureRun := 0 }

/-- A CREDIT frame, taken by the credit balance (R123): an add saturates at 255 and counts what did not fit, a set replaces the
balance; a balance of 1 or above clears the starve logged flag and stops the starve timer. -/
def Trunk.takeCredit (x : Trunk) (mode : CreditMode) (count : Nat) : Trunk :=
  let y :=
    match mode with
    | .add =>
      { x with
        credit := min (x.credit + count) 255
        counters := raise x.counters TrunkCounter.creditExcess.index (x.credit + count - 255) }
    | .set => { x with credit := count }
  if 1 ≤ y.credit then { y with starveLogged := false, starveTimer := none } else y

/-- A REQUEST frame, handed to the port's request queue: it joins the tail, or is dropped and counted where four are held (R137). -/
def Trunk.queueRequest (x : Trunk) (r : Request) : Trunk :=
  if x.requests.length < 4 then { x with requests := x.requests ++ [r] }
  else { x with counters := raise x.counters TrunkCounter.requestsDropped.index 1 }

/-- A received unit, judged by a port in UP (R122). -/
def State.trunkReceive (s : State) (p : TrunkId) (v : TrunkVerdict) : State :=
  match v with
  | .badCrc => s.trunkCheckError p
  | .badForm => s.trunkBadForm p
  | .credit mode count => (s.modTrunk p fun x => { x with failureRun := 0 }.takeCredit mode count).choose p
  | .request r => s.modTrunk p fun x => { x with failureRun := 0 }.queueRequest r

/-- A received unit, recognised by a port in ALIGNING: it is acted on by no block (R118). -/
def State.trunkAlignUnit (s : State) (p : TrunkId) (v : TrunkVerdict) : State :=
  match v with
  | .credit _ _ | .request _ => s.trunkAlignStep p
  | .badCrc | .badForm => s.modTrunk p Trunk.alignBreak

/-- A unit ends: nothing is in reception after it (R8). -/
def State.closeTrunkReception (s : State) (p : TrunkId) : State :=
  s.modTrunk p fun x => { x with reception := none }

/-! ### Line commands -/

/-- TRUNK_SIGNAL_PRESENT (R118): DOWN goes to ALIGNING with its aligning run at 0. -/
def execTrunkSignalPresent (p : TrunkId) (s : State) : Host.Outcome State Fault Refusal :=
  .next (s.modTrunk p fun x =>
    if s.held = false ∧ x.link = .down then { x with line := true, link := .aligning, aligningRun := 0 }
    else { x with line := true })

/-- The effect of a signal loss on a trunk port (R118, R121). -/
def State.trunkSignalLoss (s : State) (p : TrunkId) : State :=
  let t := s.modTrunk p fun x => { x with line := false, reception := none }
  match (s.trunk p).link with
  | .up => t.trunkLeaveUp p .down
  | .aligning | .down => t.modTrunk p fun x => { x with link := .down }

/-- TRUNK_SIGNAL_LOSS (R118, R121). -/
def execTrunkSignalLoss (p : TrunkId) (s : State) : Host.Outcome State Fault Refusal :=
  .next (if s.held then s.modTrunk p fun x => { x with line := false } else s.withWaits fun s => s.trunkSignalLoss p)

/-- TRUNK_IDLE_SEQUENCE (R118): one step in ALIGNING. -/
def execTrunkIdleSequence (p : TrunkId) (s : State) : Host.Outcome State Fault Refusal :=
  .next (s.unlessHeld fun s => s.withWaits fun s =>
    match (s.trunk p).link with
    | .aligning => s.trunkAlignStep p
    | .up | .down => s)

/-- TRUNK_UNIT_END (R118, R122): the received unit is checked and acted on in UP, counts toward alignment in ALIGNING, and is
ignored in DOWN. -/
def execTrunkUnitEnd (p : TrunkId) (symbols : List LineSymbol) (s : State) : Host.Outcome State Fault Refusal :=
  .next (s.unlessHeld fun s => s.withWaits fun s =>
    let v := judgeTrunk ((s.trunk p).reception.getD [] ++ symbols)
    match (s.trunk p).link with
    | .down => s
    | .aligning => (s.closeTrunkReception p).trunkAlignUnit p v
    | .up => (s.closeTrunkReception p).trunkReceive p v)

/-- What is in reception after a truncated unit on a trunk port (R8, R118). -/
def afterTrunkTruncation : Truncation → Option (List LineSymbol)
  | .byAbort => none
  | .byStart => some []

/-- TRUNK_TRUNCATED_UNIT (R118): the unit is discarded and counted nowhere. -/
def execTrunkTruncatedUnit (p : TrunkId) (ending : Truncation) (s : State) : Host.Outcome State Fault Refusal :=
  .next (s.unlessHeld fun s =>
    match (s.trunk p).link with
    | .down => s
    | .aligning | .up => s.modTrunk p fun x => { x with reception := afterTrunkTruncation ending })

/-- TRUNK_STRAY_SYMBOL (R118, R170): in ALIGNING the run is set to 0; in UP the symbols are one unit that fails its CRC check. -/
def execTrunkStraySymbol (p : TrunkId) (_symbols : List LineSymbol) (s : State) : Host.Outcome State Fault Refusal :=
  .next (s.unlessHeld fun s => s.withWaits fun s =>
    match (s.trunk p).link with
    | .down => s
    | .aligning => s.modTrunk p Trunk.alignBreak
    | .up => s.trunkCheckError p)

/-! ### Timers -/

/-- The expiry of a starve timer at `t`: CREDIT_STARVED is logged, the logged flag is set, and the timer stops (R125). -/
def State.expireStarve (s : State) (p : TrunkId) (t : Time) : State :=
  ((s.reachTime t).logFault (starvedLogging p)).modTrunk p fun x => { x with starveLogged := true, starveTimer := none }

/-- STARVE_TIMER_EXPIRY (R125): taken while the timer runs. -/
def execStarveTimerExpiry (p : TrunkId) (s : State) : Host.Outcome State Fault Refusal :=
  .next (s.unlessHeld fun s =>
    match (s.trunk p).starveTimer with
    | some t => s.expireStarve p t
    | none => s)

/-- The expiry of a mark timer at `t`: it is restarted one interval later; below 8 the debt rises, which prompts a choice, and at 8
MARK_OVERRUN is logged (R126). -/
def State.expireMark (s : State) (p : TrunkId) (t : Time) : State :=
  let u := (s.reachTime t).modTrunk p fun x => { x with markTimer := some (t + BitVec.ofNat 32 x.markInterval) }
  if (s.trunk p).markDebt < 8 then (u.modTrunk p fun x => { x with markDebt := x.markDebt + 1 }).choose p
  else u.logFault (portLogging .markOverrun (.trunk p))

/-- MARK_TIMER_EXPIRY (R126): taken while the timer runs. -/
def execMarkTimerExpiry (p : TrunkId) (s : State) : Host.Outcome State Fault Refusal :=
  .next (s.unlessHeld fun s => s.withWaits fun s =>
    match (s.trunk p).markTimer with
    | some t => s.expireMark p t
    | none => s)

/-! ### Transmission ends -/

/-- The end of a merged frame, in the order of R132: hold stores, cells, the record's leaving, FRAMES_SENT, a close attempt, what the
leaving brings about for the group, and the arbiter's choice. -/
def State.endFrame (s : State) (p : TrunkId) (head : FrameRecord) (rest : List FrameRecord) : State :=
  let t := head.entries.foldl (fun u e => u.updateHold p e) s
  let u := (t.removeHead p head rest).countTrunk p .framesSent 1
  let v := (u.handAttempt p).afterLeaving p
  (v.modTrunk p Trunk.endUnit).choose p

/-- The kind of the unit in transmission, if there is one. -/
def Trunk.sending (x : Trunk) : Option TxKind := x.tx.map TxUnit.kind

/-- FRAME_TRANSMISSION_END (R132): taken while the port sends a merged frame. -/
def execFrameTransmissionEnd (p : TrunkId) (s : State) : Host.Outcome State Fault Refusal :=
  .next (s.unlessHeld fun s => s.withWaits fun s =>
    match (s.trunk p).sending, (s.group p).sendingHead with
    | some .frame, some (head, rest) => s.endFrame p head rest
    | _, _ => s)

/-- The end of a mark: MARKS_SENT rises and the arbiter makes a choice (R127, R129). -/
def State.endMark (s : State) (p : TrunkId) : State :=
  ((s.countTrunk p .marksSent 1).modTrunk p Trunk.endUnit).choose p

/-- MARK_TRANSMISSION_END (R127): taken while the port sends a mark. -/
def execMarkTransmissionEnd (p : TrunkId) (s : State) : Host.Outcome State Fault Refusal :=
  .next (s.unlessHeld fun s => s.withWaits fun s =>
    match (s.trunk p).sending with
    | some .mark => s.endMark p
    | some .reply | some .frame | none => s)

/-- The end of a reply: it leaves the queue and REPLIES_SENT rises; the end of the OK reply to RESET takes the soft reset at the same
event, and any other end makes a choice (R134, R154). -/
def State.endReply (s : State) (p : TrunkId) (r : Reply) : State :=
  let t := ((s.modTrunk p fun x => { x with replies := x.replies.tail }).countTrunk p .repliesSent 1).modTrunk p Trunk.endUnit
  if s.softPending = some p ∧ RequestName.ofCode r.name = some .reset ∧ r.status = .ok then t.softReset
  else t.choose p

/-- REPLY_TRANSMISSION_END (R134): taken while the port sends a reply. -/
def execReplyTransmissionEnd (p : TrunkId) (s : State) : Host.Outcome State Fault Refusal :=
  .next (s.unlessHeld fun s => s.withWaits fun s =>
    match (s.trunk p).sending, (s.trunk p).replies with
    | some .reply, r :: _ => s.endReply p r
    | _, _ => s)

end Sys2Proof.Machine
end

