-- ==== Sys2Proof/Machine/Close.lean ====
section
/-! DEFINITION. The close unit's shared operations: the entries and fill kinds of a record (R88, R89), the loss monitor's steps
(R25, R26), the making of a record (R86, R91), one empty instant (R83 to R85), the walk of a close attempt (R82), and the forced
advance with the count that precedes it (R71, R94). -/

namespace Sys2Proof.Machine

/-! ### Entries and fills (R88, R89) -/

/-- The fill kind chosen at a close from the stream's policy and its state before the step (R89). -/
def Stream.fillKind (x : Stream) : FillKind :=
  match x.fillPolicy with
  | .zero => .zero
  | .constant => .const
  | .hold => if x.state = .live then .hold else .zero

/-- The entry of one due slot: REAL with the cell its slot map holds, else a fill (R88). -/
def State.entryOf (s : State) (slotMap : List (Option CellId)) (x : Slot × Nat) : Entry :=
  { slot := x.2, stream := x.1.stream,
    content := match (slotMap[x.2]?).join with
      | some c => .real c
      | none => .fill (s.stream x.1.stream).fillKind }

/-- The entry list of a record: one entry for each due slot of the instant in the record's list, in slot order; an empty instant
has the empty slot map (R88). -/
def State.entriesFor (s : State) (slots : List Slot) (n : Instant) (slotMap : List (Option CellId)) : List Entry :=
  (dueSlots slots n).map (s.entryOf slotMap)

/-! ### The loss monitor (R25, R26) -/

/-- The step for a REAL entry: LIVE with fill run 0, and STREAM_RECOVERED if the stream was LOST (R25). -/
def State.stepReal (s : State) (g : GroupId) (n : Instant) (i : StreamId) : State :=
  let t := s.modStream i fun x => { x with state := .live, fillRun := 0 }
  if (s.stream i).state = .lost then t.logFault (streamLogging .streamRecovered g i n) else t

/-- The step for a fill entry: the fill run rises and stays at 255, FILL_ENTRIES rises, and a WAITING or LIVE stream whose new run
is at or above its threshold enters LOST with STREAM_LOST (R26, R37). -/
def State.stepFill (s : State) (g : GroupId) (n : Instant) (i : StreamId) : State :=
  let run := min ((s.stream i).fillRun + 1) 255
  let t := (s.modStream i fun x => { x with fillRun := run }).countStream i .fillEntries
  if ((s.stream i).state = .waiting ∨ (s.stream i).state = .live) ∧ (s.stream i).threshold ≤ run then
    (t.modStream i fun x => { x with state := .lost }).logFault (streamLogging .streamLost g i n)
  else t

/-- One entry's monitor step; it reaches only a stream bound to the record's group (R27). -/
def State.stepMonitor (s : State) (g : GroupId) (n : Instant) (e : Entry) : State :=
  if (s.stream e.stream).group = some g then
    match e.content with
    | .real _ => s.stepReal g n e.stream
    | .fill _ => s.stepFill g n e.stream
  else s

/-- The order in which the `k`-th record steps the monitors of its entries (R91): a free order, each entry once (log entry 5). -/
def stepOrder (k : Nat) (entries : List Entry) : List Entry :=
  entries.insertionSort fun a b => Config.monitorRank k a.slot ≤ Config.monitorRank k b.slot

/-- The monitor steps of a record, in a free order (R91, log entry 5). -/
def State.stepMonitors (s : State) (g : GroupId) (n : Instant) (entries : List Entry) : State :=
  (stepOrder s.draws entries).foldl (fun t e => t.stepMonitor g n e) { s with draws := s.draws + 1 }

/-! ### Making a record (R86, R91) -/

/-- The frame counter of a close reason (R91). -/
def CloseReason.counter : CloseReason → GroupCounter
  | .complete => .framesComplete
  | .expired => .framesExpired
  | .forced => .framesForced
  | .empty => .framesEmpty

/-- A frame record is made and placed at the tail of the queue: frame references rise (R32), the monitors step and the counter of
the close reason rises (R91). -/
def State.placeRecord (s : State) (g : GroupId) (r : FrameRecord) : State :=
  (((s.modGroup g fun x => { x with queue := x.queue ++ [r] }).addRefs r.entries).stepMonitors g r.instant r.entries).countGroup g
    r.reason.counter 1

/-- The record that the close of `r` makes with reason `reason` (R86, R88, R90). -/
def State.recordOfRow (s : State) (g : GroupId) (r : Row) (reason : CloseReason) : FrameRecord :=
  { instant := r.instant, generation := r.generation, reason := reason,
    entries := s.entriesFor ((s.group g).templates.slotsOf r.generation) r.instant r.slotMap,
    holdMiss := false, inTransmission := false }

/-- The EMPTY record of an empty instant: every entry is a fill, read in the ACTIVE bank (R83, R85, R90). -/
def State.emptyRecord (s : State) (g : GroupId) (n : Instant) : FrameRecord :=
  { instant := n, generation := (s.group g).templates.activeGen, reason := .empty,
    entries := s.entriesFor (s.group g).templates.activeSlots n [], holdMiss := false, inTransmission := false }

/-- Close the row `r`: record, row release, cursor past it with the switch if S is reached, and then the arbiter's choice that a
placement prompts (R86, R129). -/
def State.closeRow (s : State) (g : GroupId) (r : Row) (reason : CloseReason) : State :=
  ((((s.placeRecord g (s.recordOfRow g r reason)).modGroup g fun x =>
      { x with rows := x.rows.filter fun y => y.instant != r.instant }).freeRowList [r.rowId]).moveCursor g
        (r.instant + 1)).choose g

/-- Emit the empty instant `n` (R85): an EMPTY record, the cursor past it, and the arbiter's choice. -/
def State.emitInstant (s : State) (g : GroupId) (n : Instant) : State :=
  ((s.placeRecord g (s.emptyRecord g n)).moveCursor g (n + 1)).choose g

/-- Skip `len` instants from `n`, `due` of which have a due slot: SKIPPED rises by `due` and the cursor moves past them (R83, R84);
an instant with due count 0 is skipped silently. -/
def State.skipInstants (s : State) (g : GroupId) (n : Instant) (len due : Nat) : State :=
  (s.countGroup g .skipped due).moveCursor g (n + BitVec.ofNat 32 len)

/-- One empty instant, where the frame queue has a place or none is needed (R83, R84, R85). -/
def State.passEmpty (s : State) (g : GroupId) (n : Instant) : State :=
  if dueCount (s.group g).templates.activeSlots n = 0 then s.skipInstants g n 1 0
  else
    match (s.group g).empty with
    | .skip => s.skipInstants g n 1 1
    | .emit => s.emitInstant g n

/-- The empty instant `n` needs a frame-queue place (R85). -/
def Group.needsPlace (x : Group) (n : Instant) : Bool :=
  x.empty == .emit && dueCount x.templates.activeSlots n != 0

/-! ### The walk (R82) -/

/-- The close reason of a row that a walk closes (R87). -/
def Group.walkReason (x : Group) (r : Row) : CloseReason :=
  if x.rowComplete r then .complete else .expired

/-- The walk of an attempt (R82): while the governing row is ripe, pass the empty instant at the cursor or close the governing row,
and stop where a frame-queue place is needed and none is free.  Every open row lies in [E, E + D) and D is at most 64 (R58), so 64
moves of the cursor are enough. -/
def State.walk (g : GroupId) : Nat → State → State
  | 0, s => s
  | fuel + 1, s =>
    match (s.group g).ripeGoverning, (s.group g).cursor with
    | some r, some e =>
      if e = r.instant then
        if (s.group g).freePlaces = 0 then s
        else State.walk g fuel (s.closeRow g r ((s.group g).walkReason r))
      else if (s.group g).needsPlace e ∧ (s.group g).freePlaces = 0 then s
      else State.walk g fuel (s.passEmpty g e)
    | _, _ => s

/-! ### The forced advance (R71, R94) -/

/-- The rows of a group for instants of [e, target). -/
def Group.rowsBefore (x : Group) (e target : Instant) : List Row :=
  x.rows.filter fun r => decide (distance e r.instant < distance e target)

/-- The instants of [e, target) that have a due slot in their governing bank, counted under the ACTIVE list before S and under the
ARMED list from S onward (R71). -/
def Group.dueBefore (x : Group) (e target : Instant) : Nat :=
  match x.templates.armed with
  | none => dueInstants x.templates.activeSlots e (distance e target)
  | some a =>
    if distance e a.switchAt < distance e target then
      dueInstants x.templates.activeSlots e (distance e a.switchAt)
        + dueInstants x.templates.otherSlots a.switchAt (distance a.switchAt target)
    else dueInstants x.templates.activeSlots e (distance e target)

/-- The frames that an advance from `e` to `target` must place (R71): one for each open row, and under EMIT one for each instant
with a due slot and no open row. -/
def Group.framesNeeded (x : Group) (e target : Instant) : Nat :=
  let rows := x.rowsBefore e target
  match x.empty with
  | .skip => rows.length
  | .emit =>
    rows.length + (x.dueBefore e target
      - (rows.filter fun r => dueCount (x.templates.governing r.instant).2 r.instant != 0).length)

/-- Pass `len` empty instants from the cursor one by one. -/
def State.passEach (g : GroupId) : Nat → State → State
  | 0, s => s
  | len + 1, s =>
    match (s.group g).cursor with
    | some e => State.passEach g len (s.passEmpty g e)
    | none => s

/-- Pass a run of `len` empty instants from `e`, all governed by the ACTIVE bank: at once where none of them makes a record, else
one by one. -/
def State.passRun (s : State) (g : GroupId) (e : Instant) (len : Nat) : State :=
  let due := dueInstants (s.group g).templates.activeSlots e len
  if due = 0 ∨ (s.group g).empty = .skip then s.skipInstants g e len due
  else State.passEach g len s

/-- The first of `stops` after `e`, as a distance from `e`, or `limit` if none is nearer. -/
def nearest (e : Instant) (limit : Nat) (stops : List Instant) : Nat :=
  stops.foldl (fun d n => if 1 ≤ distance e n ∧ distance e n < d then distance e n else d) limit

/-- The close reason of a row that a forced advance closes (R87). -/
def Group.forcedReason (x : Group) (r : Row) : CloseReason :=
  if x.rowComplete r then .complete else .forced

/-- The advance to `target` (R94): the instants of [E, target) in instant order, an open row closed whether ripe or not, the runs of
empty instants between open rows and the switch instant passed as R83 to R85 state. -/
def State.advanceTo (g : GroupId) (target : Instant) : Nat → State → State
  | 0, s => s
  | fuel + 1, s =>
    match (s.group g).cursor with
    | none => s
    | some e =>
      if before e target then
        match (s.group g).rowAt e with
        | some r => State.advanceTo g target fuel (s.closeRow g r ((s.group g).forcedReason r))
        | none =>
          let stops := (s.group g).rows.map Row.instant ++ ((s.group g).templates.armed.map Armed.switchAt).toList
          State.advanceTo g target fuel (s.passRun g e (nearest e (distance e target) stops))
      else s

/-- How many rows and runs an advance can meet: each open row, the run before it, the run to S and the run to the target. -/
def Group.advanceFuel (x : Group) : Nat := 2 * x.rows.length + 3

end Sys2Proof.Machine
end

