-- ==== Sys2Proof/Machine/Arrival.lean ====
section
/-! DEFINITION. The intake: the arbiter's search (R17) and the fourteen steps of the classification (R63 to R75), the step that
waits for a forced advance among them. -/

namespace Sys2Proof.Machine

/-! ### The intake arbiter (R17) -/

/-- The ports in the order of a search: from the port after the last-served port round to that port itself (R17). -/
def searchOrder (last : NodeId) : List NodeId :=
  (List.finRange 16).map fun k => last + 1 + k

/-- The port that the next taking is made from: the first in the search whose FIFO is not empty (R17). -/
def State.nextNode (s : State) : Option NodeId :=
  (searchOrder s.lastNode).find? fun p => !(s.node p).fifo.isEmpty

/-- The head message leaves the FIFO; a FIFO left empty closes the port's overflow episode (R14, R17). -/
def NodePort.takeHead (x : NodePort) : NodePort :=
  { x with fifo := x.fifo.tail, episodeOpen := x.episodeOpen && !x.fifo.tail.isEmpty }

/-! ### Steps 10 to 14 -/

/-- A message discarded for want of a cell (R74, R75). -/
def State.exhaustCell (s : State) (g : GroupId) : State :=
  (s.countGroup g .cellExhausted 1).logFault (groupLogging .cellExhausted g)

/-- A message discarded for want of a row (R74). -/
def State.exhaustRow (s : State) (g : GroupId) : State :=
  (s.countGroup g .rowExhausted 1).logFault (groupLogging .rowExhausted g)

/-- Put a cell into slot `k` of the row for `n` (R75). -/
def Group.fillSlot (x : Group) (n : Instant) (k : Nat) (c : CellId) : Group :=
  { x with rows := x.rows.map fun r => if r.instant = n then { r with slotMap := r.slotMap.set k (some c) } else r }

/-- Step 14: if the row for `n` is now the governing row and ripe, a close attempt is handed (R75). -/
def State.attemptIfRipe (s : State) (g : GroupId) (n : Instant) : State :=
  match (s.group g).ripeGoverning with
  | some r => if r.instant = n then s.handAttempt g else s
  | none => s

/-- Step 13: take the head cell, write the payload, reference it from the slot; ACCEPTED rises and the late run ends (R75). -/
def State.store (s : State) (g : GroupId) (n : Instant) (k : Nat) (m : SampleMsg) : State :=
  match s.freeCells with
  | [] => s.exhaustCell g
  | c :: rest =>
    (((({ s with freeCells := rest }.writeCell c m.payload).modGroup g fun x =>
        { x.fillSlot n k c with lateRun := 0, lateLogged := false }).countStream m.stream .accepted).attemptIfRipe g n)

/-- The place of a row among a group's open rows, in instant order from the cursor `e` (R56, R74). -/
def insertRow (e : Instant) (r : Row) : List Row → List Row
  | [] => [r]
  | x :: rest => if distance e r.instant < distance e x.instant then r :: x :: rest else x :: insertRow e r rest

/-- A row just opened for `n` under `gen`: deadline at the time count plus H, not expired, all slots absent (R60, R74). -/
def State.newRow (s : State) (g : GroupId) (rid : RowId) (n : Instant) (gen : Generation) : Row :=
  { rowId := rid, instant := n, generation := gen, deadline := s.time + BitVec.ofNat 32 (s.group g).holdTime, expired := false,
    slotMap := List.replicate ((s.group g).templates.slotsOf gen).length none }

/-- Step 12: the cell pool is checked before the row pool; else the head row of the free list is opened and the sample stored
(R74). -/
def State.openAndStore (s : State) (g : GroupId) (n : Instant) (k : Nat) (gen : Generation) (m : SampleMsg) : State :=
  match s.freeCells, s.freeRows with
  | [], _ => s.exhaustCell g
  | _ :: _, [] => s.exhaustRow g
  | _ :: _, rid :: rest =>
    ({ s with freeRows := rest }.modGroup g fun x =>
      { x with rows := insertRow (x.cursor.getD n) (s.newRow g rid n gen) x.rows }).store g n k m

/-- Step 11: a duplicate is discarded under KEEP_FIRST and overwrites the cell under KEEP_LAST (R73). -/
def State.takeDuplicate (s : State) (c : CellId) (m : SampleMsg) : State :=
  match (s.stream m.stream).dupPolicy with
  | .keepFirst => s.countStream m.stream .duplicate
  | .keepLast => (s.writeCell c m.payload).countStream m.stream .duplicateReplaced

/-- Steps 10 to 14, for a message placed in the window at `n`, slot `k`, generation `gen` (R72 to R75). -/
def State.placeMessage (s : State) (g : GroupId) (n : Instant) (k : Nat) (gen : Generation) (m : SampleMsg) : State :=
  match (s.group g).rowAt n with
  | some r =>
    match (r.slotMap[k]?).join with
    | some c => s.takeDuplicate c m
    | none => s.store g n k m
  | none =>
    if (s.group g).state = .draining then s.countStream m.stream .drainingDiscards
    else s.openAndStore g n k gen m

/-! ### Steps 7 to 9 -/

/-- Step 8: a late message is discarded and counted, the late run rises and stays at 64, and LATE_RUN is logged once per run when it
stands at 64 with no open rows (R68, R69). -/
def State.discardLate (s : State) (g : GroupId) (i : StreamId) : State :=
  let run := min ((s.group g).lateRun + 1) 64
  let t := ((s.countStream i .lateDiscards).countGroup g .lateDiscards 1).modGroup g fun x => { x with lateRun := run }
  if run = 64 ∧ (s.group g).rows = [] ∧ (s.group g).lateLogged = false then
    (t.logFault (groupLogging .lateRun g)).modGroup g fun x => { x with lateLogged := true }
  else t

/-- A message discarded as early: the stream's and the group's EARLY_DISCARDS rise (R70, R71). -/
def State.discardEarly (s : State) (g : GroupId) (i : StreamId) : State :=
  (s.countStream i .earlyDiscards).countGroup g .earlyDiscards 1

/-- Resync: the cursor becomes `n`, with the switch if S is reached, RESYNC is logged and RESYNCS rises (R70). -/
def State.resync (s : State) (g : GroupId) (n : Instant) : State :=
  ((s.moveCursor g n).logFault (groupLogging .resync g)).countGroup g .resyncs 1

/-- Step 9 for an early message in RUNNING: resync with no open rows, else by the early policy a discard or the request of a forced
advance, for which the message waits (R70). -/
def State.takeEarly (s : State) (p : NodeId) (g : GroupId) (n : Instant) (k : Nat) (gen : Generation) (m : SampleMsg) : State :=
  if (s.group g).rows = [] then (s.resync g n).placeMessage g n k gen m
  else
    match (s.group g).early with
    | .discard => s.discardEarly g m.stream
    | .advance => { s with intake := some { port := p, msg := m, group := g, instant := n } }

/-- Steps 8 and 9, against the set cursor `e` (R57, R68, R70). -/
def State.placeAgainst (s : State) (p : NodeId) (g : GroupId) (e n : Instant) (k : Nat) (gen : Generation) (m : SampleMsg) :
    State :=
  match position e (s.group g).depth n with
  | .late => s.discardLate g m.stream
  | .inWindow => s.placeMessage g n k gen m
  | .early =>
    if (s.group g).state = .draining then s.placeMessage g n k gen m
    else s.takeEarly p g n k gen m

/-- Step 7: a RUNNING group whose cursor is unset is synchronised at `n`; then steps 8 and 9 (R67). -/
def State.synchronise (s : State) (p : NodeId) (g : GroupId) (n : Instant) (k : Nat) (gen : Generation) (m : SampleMsg) : State :=
  match (s.group g).cursor with
  | some e => s.placeAgainst p g e n k gen m
  | none =>
    if (s.group g).state = .running then (s.moveCursor g n).placeAgainst p g n n k gen m
    else s.placeMessage g n k gen m

/-! ### Steps 1 to 6 -/

/-- What step 6 finds (R66). -/
inductive SlotVerdict where
  | notInGeneration
  | offCadence
  | found (slot : Nat) (generation : Generation)
  deriving DecidableEq, Repr

/-- Step 6: the stream's slot in the governing bank of `n`, and whether it is due (R66). -/
def Group.judgeSlot (x : Group) (n : Instant) (i : StreamId) : SlotVerdict :=
  let bank := x.templates.governing n
  match findSlot bank.2 i with
  | none => .notInGeneration
  | some (slot, k) => if slot.due n then .found k bank.1 else .offCadence

/-- The adjusted instant: the message's instant plus the stream's offset, modulo 2^32 (R20). -/
def Stream.adjust (x : Stream) (n : Instant) : Instant := n + BitVec.ofInt 32 x.offset

/-- Steps 5 and 6, for a stream bound to `g`, and the steps after them (R65, R66). -/
def State.classifyIn (s : State) (p : NodeId) (g : GroupId) (m : SampleMsg) : State :=
  if (s.group g).state.isStopped then s.countStream m.stream .stoppedDiscards
  else
    let n := (s.stream m.stream).adjust m.instant
    match (s.group g).judgeSlot n m.stream with
    | .notInGeneration => s.countStream m.stream .notInGeneration
    | .offCadence => s.countStream m.stream .offCadence
    | .found k gen => s.synchronise p g n k gen m

/-- The classification of a message from port `p` (R63): steps 1 to 4, and the steps after them. -/
def State.classify (s : State) (p : NodeId) (m : SampleMsg) : State :=
  let x := s.stream m.stream
  if x.enabled = false then s.countNode p .unknownStream 1
  else if x.port ≠ p then s.countNode p .misrouted 1
  else if m.lengthField ≠ x.length then s.countStream m.stream .lengthDiscards
  else
    match x.group with
    | none => s.countStream m.stream .unboundDiscards
    | some g => s.classifyIn p g m

/-! ### The forced advance and the message that waits for it -/

/-- The cursor that a forced advance for instant `n` asks for: n − D + 1 (R71). -/
def Group.advanceTarget (x : Group) (n : Instant) : Instant := n - BitVec.ofNat 32 x.depth + 1

/-- Whether the close unit takes the advance, and from which cursor: the group is RUNNING (R113), its cursor is set, and the frames
needed are at most the free places (R71). -/
def Group.advanceFrom (x : Group) (n : Instant) : Option Instant :=
  match x.cursor with
  | none => none
  | some e =>
    if x.state = .running ∧
        (before e (x.advanceTarget n) = true → x.framesNeeded e (x.advanceTarget n) ≤ x.freePlaces) then some e
    else none

/-- A message with as many words as its stream's payload length now asks for: beyond the words it carries, free values (log entry
21). -/
def State.padPayload (s : State) (m : SampleMsg) : SampleMsg :=
  { m with
    payload := m.payload ++
      (List.range ((s.stream m.stream).length - m.payload.length)).map fun i => Config.missingWord s.draws i }

/-- Steps 10 to 14 for a message that has waited: its length was judged by the L of its taking and is not judged again (R20, R35). -/
def State.placeWaiting (s : State) (w : WaitingMsg) (k : Nat) (gen : Generation) : State :=
  if w.msg.payload.length < (s.stream w.msg.stream).length then
    { s with draws := s.draws + 1 }.placeMessage w.group w.instant k gen (s.padPayload w.msg)
  else s.placeMessage w.group w.instant k gen w.msg

/-- The waiting message continues at step 10 (R71).  Enabled, bound port, payload length and instant offset are those of its taking
(R20, R35).  The binding and the governing slot are read anew, as R55 rules for an opening that comes after a cancel.  MODEL'S CHOICE (log
entry 6): a stream that is no longer bound to the group, be it UNBOUND or bound to the other group by now, counts UNBOUND_DISCARDS,
and one bound anew counts NOT_IN_GENERATION or OFF_CADENCE where its bank says so. -/
def State.resumeMessage (s : State) (w : WaitingMsg) : State :=
  if (s.stream w.msg.stream).group ≠ some w.group then s.countStream w.msg.stream .unboundDiscards
  else
    match (s.group w.group).judgeSlot w.instant w.msg.stream with
    | .notInGeneration => s.countStream w.msg.stream .notInGeneration
    | .offCadence => s.countStream w.msg.stream .offCadence
    | .found k gen => s.placeWaiting w k gen

end Sys2Proof.Machine
end

