-- ==== Sys2Proof/Machine/Window.lean ====
section
/-! DEFINITION. The commands of the intake, the rows and the close units: INTAKE_TAKING (R17, R63), FORCED_ADVANCE (R71),
ROW_DEADLINE_EXPIRY (R76) and CLOSE_ATTEMPT (R82). -/

namespace Sys2Proof.Machine

/-- The taking itself: the head message of the chosen port leaves its FIFO, the port becomes the last-served one, and the intake
classifies the message whole (R17, R63). -/
def State.takeMessage (s : State) (p : NodeId) : State :=
  match (s.node p).fifo with
  | m :: _ => ({ s with lastNode := p }.modNode p NodePort.takeHead).classify p m
  | [] => s

/-- INTAKE_TAKING (R17): made while the intake is free and some FIFO is not empty; otherwise the arbiter makes no taking. -/
def execIntakeTaking (s : State) : Host.Outcome State Fault Refusal :=
  .next (s.unlessHeld fun s =>
    match s.intake, s.nextNode with
    | none, some p => s.takeMessage p
    | _, _ => s)

/-- The close unit takes the intake's request or declines it, all or nothing, and the message reaches its outcome (R71, R94, R95). -/
def State.settleAdvance (s : State) (w : WaitingMsg) : State :=
  let t := { s with intake := none }
  match (t.group w.group).advanceFrom w.instant with
  | some _ =>
    ((State.advanceTo w.group ((t.group w.group).advanceTarget w.instant) (t.group w.group).advanceFuel t).resumeMessage w).handAttempt
      w.group
  | none => t.discardEarly w.group w.msg.stream

/-- FORCED_ADVANCE (R71): taken while the intake waits for it. -/
def execForcedAdvance (s : State) : Host.Outcome State Fault Refusal :=
  .next (s.unlessHeld fun s => s.withWaits fun s =>
    match s.intake with
    | some w => s.settleAdvance w
    | none => s)

/-- The expiry of the deadline of row `r`: the time count has reached it, the expired flag is set, and a close attempt is handed if
the row is governing (R76). -/
def State.expireRow (s : State) (g : GroupId) (r : Row) : State :=
  let t := (s.reachTime r.deadline).modGroup g fun x =>
    { x with rows := x.rows.map fun y => if y.instant = r.instant then { y with expired := true } else y }
  match (s.group g).rows with
  | x :: _ => if x.instant = r.instant then t.handAttempt g else t
  | [] => t

/-- ROW_DEADLINE_EXPIRY (R76): taken once per open row; a row that has taken it, or is not open, takes none. -/
def execRowDeadlineExpiry (g : GroupId) (n : Instant) (s : State) : Host.Outcome State Fault Refusal :=
  .next (s.unlessHeld fun s =>
    match (s.group g).rowAt n with
    | some r => if r.expired then s else s.expireRow g r
    | none => s)

/-- The close unit takes one handed attempt whole: the walk of R82 (R81). -/
def State.takeAttempt (s : State) (g : GroupId) : State :=
  State.walk g 64 (s.modGroup g fun x => { x with attempts := x.attempts - 1 })

/-- CLOSE_ATTEMPT (R81, R82): an attempt that has been handed is taken; with none handed there is nothing to take. -/
def execCloseAttempt (g : GroupId) (s : State) : Host.Outcome State Fault Refusal :=
  .next (s.unlessHeld fun s => s.withWaits fun s =>
    if (s.group g).attempts = 0 then s else s.takeAttempt g)

end Sys2Proof.Machine
end

