-- ==== Sys2Proof/Machine/Dispatch.lean ====
section
/-! DEFINITION. `exec`: one arm for each constructor of `Instr`, each one direct call of the command's meaning. -/

namespace Sys2Proof.Machine

/-- The effect of a command on everything but the queue of waiting commands. -/
def exec (i : Instr) (s : State) : Host.Outcome State Fault Refusal :=
  match i with
  | .powerOnReset => Sys2Proof.Machine.execPowerOnReset s
  | .powerOnResetRelease => Sys2Proof.Machine.execPowerOnResetRelease s
  | .pinReset => Sys2Proof.Machine.execPinReset s
  | .pinResetRelease => Sys2Proof.Machine.execPinResetRelease s
  | .nodeSignalPresent p => Sys2Proof.Machine.execNodeSignalPresent p s
  | .nodeSignalLoss p => Sys2Proof.Machine.execNodeSignalLoss p s
  | .nodeIdleSequence p => Sys2Proof.Machine.execNodeIdleSequence p s
  | .nodeUnitEnd p symbols => Sys2Proof.Machine.execNodeUnitEnd p symbols s
  | .nodeTruncatedUnit p ending => Sys2Proof.Machine.execNodeTruncatedUnit p ending s
  | .intakeTaking => Sys2Proof.Machine.execIntakeTaking s
  | .forcedAdvance => Sys2Proof.Machine.execForcedAdvance s
  | .rowDeadlineExpiry g n => Sys2Proof.Machine.execRowDeadlineExpiry g n s
  | .closeAttempt g => Sys2Proof.Machine.execCloseAttempt g s
  | .trunkSignalPresent p => Sys2Proof.Machine.execTrunkSignalPresent p s
  | .trunkSignalLoss p => Sys2Proof.Machine.execTrunkSignalLoss p s
  | .trunkIdleSequence p => Sys2Proof.Machine.execTrunkIdleSequence p s
  | .trunkUnitEnd p symbols => Sys2Proof.Machine.execTrunkUnitEnd p symbols s
  | .trunkTruncatedUnit p ending => Sys2Proof.Machine.execTrunkTruncatedUnit p ending s
  | .starveTimerExpiry p => Sys2Proof.Machine.execStarveTimerExpiry p s
  | .markTimerExpiry p => Sys2Proof.Machine.execMarkTimerExpiry p s
  | .frameTransmissionEnd p => Sys2Proof.Machine.execFrameTransmissionEnd p s
  | .markTransmissionEnd p => Sys2Proof.Machine.execMarkTransmissionEnd p s
  | .replyTransmissionEnd p => Sys2Proof.Machine.execReplyTransmissionEnd p s
  | .ping => Sys2Proof.Machine.execPing s
  | .readStream => Sys2Proof.Machine.execReadStream s
  | .writeStream => Sys2Proof.Machine.execWriteStream s
  | .templateLoad => Sys2Proof.Machine.execTemplateLoad s
  | .templateCopy => Sys2Proof.Machine.execTemplateCopy s
  | .templateRead => Sys2Proof.Machine.execTemplateRead s
  | .templateCommit => Sys2Proof.Machine.execTemplateCommit s
  | .templateCancel => Sys2Proof.Machine.execTemplateCancel s
  | .groupSet => Sys2Proof.Machine.execGroupSet s
  | .groupStart => Sys2Proof.Machine.execGroupStart s
  | .groupStop => Sys2Proof.Machine.execGroupStop s
  | .groupAbort => Sys2Proof.Machine.execGroupAbort s
  | .groupStatus => Sys2Proof.Machine.execGroupStatus s
  | .rowList => Sys2Proof.Machine.execRowList s
  | .portStatus => Sys2Proof.Machine.execPortStatus s
  | .portSet => Sys2Proof.Machine.execPortSet s
  | .trunkSet => Sys2Proof.Machine.execTrunkSet s
  | .readCounters => Sys2Proof.Machine.execReadCounters s
  | .faultRead => Sys2Proof.Machine.execFaultRead s
  | .faultTake => Sys2Proof.Machine.execFaultTake s
  | .faultMaskRead => Sys2Proof.Machine.execFaultMaskRead s
  | .faultMaskWrite => Sys2Proof.Machine.execFaultMaskWrite s
  | .reset => Sys2Proof.Machine.execReset s
  | .undefinedRequest => Sys2Proof.Machine.execUndefinedRequest s
  | .nodeStraySymbol p symbols => Sys2Proof.Machine.execNodeStraySymbol p symbols s
  | .trunkStraySymbol p symbols => Sys2Proof.Machine.execTrunkStraySymbol p symbols s

end Sys2Proof.Machine
end

