-- ==== Sys2Proof/Safety.lean ====
section
/-! DEFINITION. What a safe run of the part keeps: the laws the manual lays down on its ports, streams, groups, pools and fault
log, each as one predicate; and the terms the statements use: which request the engine serves next (R139), what its reply is, and
what the classification has found of a message when it reaches the window (R64 to R66). -/

namespace Sys2Proof

/-! ### Commands that take a request (R139, R140) -/

/-- The command is the engine's taking of a request (R139, R140). -/
def Instr.isRequest : Instr → Bool
  | .ping | .readStream | .writeStream | .templateLoad | .templateCopy | .templateRead | .templateCommit | .templateCancel
  | .groupSet | .groupStart | .groupStop | .groupAbort | .groupStatus | .rowList | .portStatus | .portSet | .trunkSet
  | .readCounters | .faultRead | .faultTake | .faultMaskRead | .faultMaskWrite | .reset | .undefinedRequest => true
  | .powerOnReset | .powerOnResetRelease | .pinReset | .pinResetRelease | .nodeSignalPresent _ | .nodeSignalLoss _
  | .nodeIdleSequence _ | .nodeUnitEnd _ _ | .nodeTruncatedUnit _ _ | .intakeTaking | .forcedAdvance | .rowDeadlineExpiry _ _
  | .closeAttempt _ | .trunkSignalPresent _ | .trunkSignalLoss _ | .trunkIdleSequence _ | .trunkUnitEnd _ _
  | .trunkTruncatedUnit _ _ | .starveTimerExpiry _ | .markTimerExpiry _ | .frameTransmissionEnd _ | .markTransmissionEnd _
  | .replyTransmissionEnd _ | .nodeStraySymbol _ _ | .trunkStraySymbol _ _ => false

/-- The name code of the request that a command takes (R175); absent for the commands told apart by more than the name. -/
def Instr.requestCode : Instr → Option Byte
  | .ping => some 1
  | .readStream => some 2
  | .writeStream => some 3
  | .templateLoad => some 4
  | .templateCopy => some 5
  | .templateRead => some 6
  | .templateCommit => some 7
  | .templateCancel => some 8
  | .groupSet => some 9
  | .groupStart => some 10
  | .groupStop => some 11
  | .groupAbort => some 12
  | .groupStatus => some 13
  | .rowList => some 14
  | .portStatus => some 15
  | .portSet => some 16
  | .trunkSet => some 17
  | .readCounters => some 18
  | .faultRead => some 19
  | .faultTake => some 20
  | .reset => some 22
  | _ => none

/-- The request is one that the command takes: by its name, FAULT_MASK also by its mode (log entry 4). -/
def Instr.Takes (c : Instr) (r : Machine.Request) : Prop :=
  match c with
  | .faultMaskRead => r.name = 21 ∧ r.args.head? ≠ some 1
  | .faultMaskWrite => r.name = 21 ∧ r.args.head? ≠ some 0
  | .undefinedRequest => r.name = 0 ∨ 23 ≤ r.name.toNat
  | _ => c.requestCode = some r.name

end Sys2Proof

namespace Sys2Proof.Machine

/-! ### Counters (R168) -/

/-- Every counter of a set is a 32-bit value. -/
def countersLawful {n : Nat} (v : Vector Nat n) : Prop := ∀ c ∈ v.toList, c ≤ 4294967295

/-! ### Node ports (R2, R4, R6, R12, R14) -/

/-- What holds of a node port: at most four messages, and none outside UP; an overflow episode only over a FIFO that is not empty;
a port outside DOWN is enabled with signal recorded; the runs lie in their ranges, and below the value that ends them. -/
def NodePort.Lawful (x : NodePort) : Prop :=
  x.fifo.length ≤ 4 ∧ (x.link ≠ .up → x.fifo = []) ∧ (x.fifo = [] → x.episodeOpen = false)
    ∧ (x.link ≠ .down → x.enabled = true ∧ x.present = true)
    ∧ x.aligningRun ≤ 4 ∧ (x.link = .aligning → x.aligningRun < 4)
    ∧ x.failureRun ≤ 8 ∧ (x.link = .up → x.failureRun < 8)
    ∧ countersLawful x.counters

/-! ### Trunk ports (R117, R121, R123, R126, R137, R138) -/

/-- What holds of a trunk port: its balance, debt, runs and queues lie in their ranges, and a port outside UP has no credit, no
debt, empty queues, stopped timers and a free transmitter. -/
def Trunk.Lawful (x : Trunk) : Prop :=
  x.credit ≤ 255 ∧ x.markDebt ≤ 8 ∧ x.requests.length ≤ 4 ∧ x.replies.length ≤ 4
    ∧ x.aligningRun ≤ 4 ∧ (x.link = .aligning → x.aligningRun < 4)
    ∧ x.failureRun ≤ 8 ∧ (x.link = .up → x.failureRun < 8)
    ∧ (x.link ≠ .up → x.credit = 0 ∧ x.markDebt = 0 ∧ x.requests = [] ∧ x.replies = [] ∧ x.markTimer = none
        ∧ x.starveTimer = none ∧ x.tx = none)
    ∧ countersLawful x.counters

/-! ### The stream table (R19, R23, R36) -/

/-- What holds of a stream entry: its fields lie in their ranges; it is UNBOUND exactly when it has no group, and then its run is 0
and its hold store invalid; a LOST stream has a fill run of at least 1; a valid hold store holds L words. -/
def Stream.Lawful (x : Stream) : Prop :=
  1 ≤ x.length ∧ x.length ≤ 8 ∧ -32 ≤ x.offset ∧ x.offset ≤ 32 ∧ 1 ≤ x.threshold ∧ x.threshold ≤ 255 ∧ x.fillRun ≤ 255
    ∧ (x.state = .unbound ↔ x.group = none) ∧ (x.state = .unbound → x.fillRun = 0 ∧ x.holdStore = none)
    ∧ (x.state = .lost → 1 ≤ x.fillRun) ∧ (∀ ws, x.holdStore = some ws → ws.length = x.length)
    ∧ countersLawful x.counters

/-! ### Groups (R38 to R42, R56, R58, R101, R102) -/

/-- A slot descriptor in its ranges (R40). -/
def Slot.Lawful (x : Slot) : Prop :=
  (x.cadence = 1 ∨ x.cadence = 2 ∨ x.cadence = 4 ∨ x.cadence = 8) ∧ x.phase < x.cadence

/-- A slot list: at most 32 descriptors in their ranges, no stream twice (R40, R42). -/
def slotsLawful (slots : List Slot) : Prop :=
  slots.length ≤ 32 ∧ (∀ x ∈ slots, x.Lawful) ∧ (slots.map Slot.stream).Nodup

/-- The template store: both lists lawful, and an ARMED generation that is the ACTIVE generation plus 1 (R39, R42). -/
def Templates.Lawful (t : Templates) : Prop :=
  slotsLawful t.activeSlots ∧ slotsLawful t.otherSlots ∧ ∀ a, t.armed = some a → a.generation = t.activeGen + 1

/-- The parameters lie in their ranges (R102). -/
def Group.paramsLawful (x : Group) : Prop :=
  2 ≤ x.depth ∧ x.depth ≤ 64 ∧ 1 ≤ x.holdTime ∧ x.holdTime ≤ 65535

/-- The law on the cursor: "a group whose cursor is unset has no open rows, and every open row of a group with cursor E holds an
instant n with E ≤ n < E + D" (R58); no two open rows for one instant (R59); the rows stand in instant order (R56). -/
def Group.windowLawful (x : Group) : Prop :=
  (x.cursor = none → x.rows = []) ∧
  ∀ e, x.cursor = some e →
    (∀ r ∈ x.rows, distance e r.instant < x.depth) ∧
    (x.rows.map fun r => distance e r.instant).Pairwise (· < ·)

/-- What the group state says of the window, the queue and the banks: STOPPED has the cursor unset and no row (R56), plain STOPPED an
empty queue (R104), the aborting condition exactly the record in transmission (R111), DRAINING something left (R108); an ARMED bank
only with the cursor set and S still ahead (R51). -/
def Group.stateLawful (x : Group) : Prop :=
  (x.state.isStopped = true → x.cursor = none) ∧
  (x.state = .stopped → x.queue = []) ∧
  (x.state = .aborting → ∃ r, x.queue = [r] ∧ r.inTransmission = true) ∧
  (x.state = .draining → x.isEmpty = false) ∧
  (∀ a, x.templates.armed = some a → ∃ e, x.cursor = some e ∧ before e a.switchAt = true)

/-- Only the head of a frame queue may be in transmission (R96). -/
def Group.queueLawful (x : Group) : Prop := ∀ r ∈ x.queue.tail, r.inTransmission = false

/-- An open row carries the generation that governs its instant, has one slot-map place for each slot of that list, and holds a cell
only in a slot that is due at its instant (R60, R66). -/
def Group.rowLawful (x : Group) (r : Row) : Prop :=
  ∃ slots : List Slot, x.templates.governing r.instant = (r.generation, slots) ∧ r.slotMap.length = slots.length ∧
    ∀ (k : Nat) (c : CellId), r.slotMap[k]? = some (some c) → ∃ y : Slot, slots[k]? = some y ∧ y.due r.instant = true

/-! ### Pools (R59) -/

/-- The rows that are open, in either group. -/
def State.openRowIds (s : State) : List RowId :=
  (s.group 0).rows.map Row.rowId ++ (s.group 1).rows.map Row.rowId

/-- The law on rows: "each of the 96 rows is either free or open for exactly one instant of exactly one group, and no group has two
open rows for the same instant" (R59). -/
def State.rowsLawful (s : State) : Prop :=
  (s.freeRows ++ s.openRowIds).Perm (List.finRange 96) ∧ ∀ g, ((s.group g).rows.map Row.instant).Nodup

/-- The cells that a group holds, in the slots of its open rows and in the REAL entries of its frame queue (R61). -/
def Group.heldCells (x : Group) : List CellId :=
  x.rows.flatMap Row.cellList ++ x.queue.flatMap fun r => realCells r.entries

/-- The law on cells: "each of the 1,024 cells is at every moment in exactly one place, which is the free list, one slot of one open
row, or one REAL entry of one frame held in a frame queue, the frame in transmission included" (R61). -/
def State.cellsLawful (s : State) : Prop :=
  (s.freeCells ++ (s.group 0).heldCells ++ (s.group 1).heldCells).Perm (List.finRange 1024)

/-! ### Bindings (R22, R23, R42) -/

/-- A stream is bound to a group exactly while it appears in that group's ACTIVE or ARMED bank. -/
def State.bindingsLawful (s : State) : Prop :=
  ∀ i g, (s.stream i).group = some g ↔
    (∃ x ∈ (s.group g).templates.activeSlots, x.stream = i) ∨
      ((s.group g).templates.armed ≠ none ∧ ∃ x ∈ (s.group g).templates.otherSlots, x.stream = i)

/-! ### The fault log (R157, R158, R160, R161) -/

/-- What holds of the fault log: at most 32 records, repeat counts in 1..255, consecutive sequence numbers that end before the next
one, and an overflow counter of 16 bits. -/
def FaultLog.Lawful (log : FaultLog) : Prop :=
  log.records.length ≤ 32 ∧ (∀ r ∈ log.records, 1 ≤ r.repeats ∧ r.repeats ≤ 255) ∧ log.overflowCount ≤ 65535
    ∧ log.records.map FaultRecord.sequence
        = (List.range log.records.length).map fun i =>
            log.nextSequence - BitVec.ofNat 16 log.records.length + BitVec.ofNat 16 i

/-! ### The whole part -/

/-- The laws that hold of each piece of the part by itself; and a part that a reset pin holds has every link DOWN (R153). -/
def State.PiecesLawful (s : State) : Prop :=
  (∀ p, (s.node p).Lawful) ∧ (∀ p, (s.trunk p).Lawful) ∧ (∀ i, (s.stream i).Lawful)
    ∧ (∀ g, (s.group g).templates.Lawful ∧ (s.group g).paramsLawful ∧ (s.group g).lateRun ≤ 64
        ∧ countersLawful (s.group g).counters)
    ∧ s.log.Lawful ∧ s.softCount ≤ 255
    ∧ (s.hold ≠ .none → (∀ p, (s.node p).link = .down) ∧ ∀ p, (s.trunk p).link = .down)

/-- A message that waits for a forced advance lies ahead of its group's cursor and beyond every open row (R70, R71). -/
def State.waitLawful (s : State) : Prop :=
  ∀ w e, s.intake = some w → (s.group w.group).cursor = some e →
    distance e w.instant ≤ 2147483647 ∧ ∀ r ∈ (s.group w.group).rows, distance e r.instant < distance e w.instant

/-- The laws on the windows, the group states and the order of the frame queues (R56, R58, R96, R101, R102, R104, R108, R111). -/
def State.WindowsLawful (s : State) : Prop :=
  (∀ g, (s.group g).paramsLawful ∧ (s.group g).windowLawful ∧ (s.group g).stateLawful ∧ (s.group g).queueLawful)
    ∧ s.waitLawful

/-- The laws on banks and open rows (R39, R42, R60). -/
def State.BanksLawful (s : State) : Prop :=
  ∀ g, (s.group g).templates.Lawful ∧ ∀ r ∈ (s.group g).rows, (s.group g).rowLawful r

/-- The law on the bound of the frame queues: "a frame queue never holds more than 8 frames" (R97). -/
def State.queuesBounded (s : State) : Prop := ∀ g, (s.group g).queue.length ≤ 8

/-- Every law of the manual that this file states. -/
def State.Lawful (s : State) : Prop :=
  s.PiecesLawful ∧ s.rowsLawful ∧ s.bindingsLawful ∧ s.WindowsLawful ∧ s.BanksLawful ∧ s.cellsLawful ∧ s.queuesBounded

/-- A safe run of `k` steps: the queue's commands are taken one after another, each answers a next state, and every state of the run
obeys the laws. -/
def State.Safe : Nat → State → Prop
  | 0, s => s.Lawful
  | k + 1, s => s.Lawful ∧ ∃ t, step s = .next t ∧ t.Safe k

/-! ### What the line TPn_TX carries of a unit (R170) -/

/-- A unit sent whole: START, its bytes and END, and the idle sequence that precedes any other unit. -/
def TxUnit.wholeOnLine (u : TxUnit) : List LineSymbol :=
  [.start] ++ u.bytes.map LineSymbol.data ++ [.stop, .idle, .idle, .idle, .idle]

/-- A unit cut after `k` of its bytes: ABORT stands in place of the remaining bytes and END. -/
def TxUnit.cutOnLine (u : TxUnit) (k : Nat) : List LineSymbol :=
  [.start] ++ (u.bytes.take k).map LineSymbol.data ++ [.abort, .idle, .idle, .idle, .idle]

/-- The last closed unit once an event has cut the unit in transmission, if there was one, after `k` of its bytes. -/
def Trunk.closedByCut (x : Trunk) (k : Nat) : List LineSymbol :=
  match x.tx with
  | some u => u.cutOnLine k
  | none => x.lastClosed

/-! ### Switches and records that leave (R51, R52, R108, R111) -/

/-- The banks after the switch of an ARMED bank: it is ACTIVE with its generation, the old ACTIVE bank IDLE with its list; without an
ARMED bank nothing changes (R51, R52). -/
def Templates.switched (t : Templates) : Templates :=
  match t.armed with
  | none => t
  | some a =>
    { activeBank := t.activeBank.other, activeSlots := t.otherSlots, activeGen := a.generation, otherSlots := t.activeSlots,
      armed := none }

/-- The switch of group `g` leaves stream `i`, bound to it, in neither bank (R23, R51). -/
def State.switchUnbinds (s : State) (g : GroupId) (i : StreamId) : Bool :=
  (s.group g).templates.armed.isSome && decide ((s.stream i).group = some g)
    && (s.group g).templates.otherSlots.all fun x => x.stream != i

/-- A stream entry that is unbound (R23). -/
def Stream.unbound (x : Stream) : Stream := { x with group := none, state := .unbound, fillRun := 0, holdStore := none }

/-- The record at the head of the queue, with `rest` behind it, is the last thing a DRAINING group holds (R108). -/
def Group.drains (x : Group) (rest : List FrameRecord) : Bool :=
  x.state == .draining && x.rows.isEmpty && rest.isEmpty

/-- A group whose head record has left, with `rest` behind it, and to which a close attempt is handed: a drain completes, the aborting
condition ends, and in any other case the group goes on (R98, R108, R111). -/
def Group.withoutHead (x : Group) (rest : List FrameRecord) : Group :=
  let y := { x with queue := rest, attempts := x.attempts + 1 }
  if x.drains rest then
    { y with state := .stopped, cursor := none, lateRun := 0, lateLogged := false, templates := x.templates.switched }
  else if x.state = .aborting then { y with state := .stopped }
  else y

/-- Command `c` takes port `p` out of UP, to `next`: the signal is lost, or a unit or stray symbols bring the failure run to 8 (R118). -/
def State.LosesUp (s : State) (p : TrunkId) (c : Instr) (next : Link) : Prop :=
  (s.trunk p).link = .up ∧
    ((c = .trunkSignalLoss p ∧ next = .down) ∨
      (7 ≤ (s.trunk p).failureRun ∧ next = .aligning ∧ ∃ symbols,
        c = .trunkStraySymbol p symbols ∨
          (c = .trunkUnitEnd p symbols ∧ judgeTrunk ((s.trunk p).reception.getD [] ++ symbols) = .badCrc)))

/-- What the leaving of UP logs: TRUNK_DOWN, and FRAME_LOST beside it, in one order or the other, where a merged frame is in
transmission (R121, R133, R164; the order is the free value of log entry 1). -/
def State.LeavingLogged (s : State) (p : TrunkId) (log : FaultLog) : Prop :=
  let down := portLogging .trunkDown (.trunk p)
  let lost := fun n : Instant =>
    ({ kind := .frameLost, group := some p, stream := none, port := some (.trunk p), instant := some n } : Logging)
  ((s.group p).headSending = false → log = s.log.take s.time down) ∧
  (∀ head rest, (s.group p).queue = head :: rest → head.inTransmission = true →
    log = (s.log.take s.time down).take s.time (lost head.instant) ∨
      log = (s.log.take s.time (lost head.instant)).take s.time down)

/-! ### Resets (R153, R155) -/

/-- What a power-on or a pin reset makes of every port, stream, group, pool and queue: the reset values, the lines as they stand, and
a unit in transmission ended with an abort delimiter (R2, R117, R153; the free lists' order is log entry 9, the record of a cut unit log
entries 10, 22 and 26, a trunk port's dropped unit in reception log entry 25). -/
def State.AtInitialValues (s t : State) : Prop :=
  (∀ p, t.node p = { State.reset.node p with line := (s.node p).line }) ∧
  (∀ i, t.stream i = State.reset.stream i) ∧ (∀ g, t.group g = State.reset.group g) ∧
  (∀ p, ∃ k, t.trunk p = { State.reset.trunk p with line := (s.trunk p).line, lastClosed := (s.trunk p).closedByCut k }) ∧
  t.lastNode = 15 ∧ t.intake = none ∧ t.freeRows = State.reset.freeRows ∧ t.freeCells = State.reset.freeCells ∧ t.lastTrunk = 1 ∧
  t.softPending = none ∧ t.pending = s.pending

/-- What a soft reset makes of the part: every owner's soft-reset values, the configuration kept, each ARMED bank switched before the
streams are set WAITING, and every port looking at its line (R2, R16, R19, R38, R52, R56, R59, R61, R96, R101, R102, R117, R136,
R152, R154, R155; the free lists' order is log entry 9, a trunk port's dropped unit in reception log entry 25). The fault log and
the last closed units are left to the statement. -/
def State.AtSoftReset (s t : State) : Prop :=
  t.pending = s.pending ∧ t.hold = s.hold ∧ t.resetNLow = s.resetNLow ∧ t.time = s.time ∧ t.alertMask = s.alertMask ∧
  t.cause = .soft ∧ t.softCount = min (s.softCount + 1) 255 ∧ t.softPending = none ∧ t.lastNode = 15 ∧ t.lastTrunk = 1 ∧
  t.intake = none ∧ t.freeRows = State.reset.freeRows ∧ t.freeCells = State.reset.freeCells ∧ t.cells = s.cells ∧
  (∀ q, t.node q =
    if (s.node q).line then { State.reset.node q with line := true, present := true, link := .aligning } else State.reset.node q) ∧
  (∀ q, t.trunk q =
    { State.reset.trunk q with
      line := (s.trunk q).line, link := if (s.trunk q).line then .aligning else .down,
      markInterval := (s.trunk q).markInterval, starveLimit := (s.trunk q).starveLimit, lastClosed := (t.trunk q).lastClosed }) ∧
  (∀ g, t.group g =
    { State.reset.group g with
      depth := (s.group g).depth, holdTime := (s.group g).holdTime, early := (s.group g).early, empty := (s.group g).empty,
      templates := (s.group g).templates.switched }) ∧
  (∀ i, t.stream i =
    let bound := (s.stream i).group.filter fun g => !s.switchUnbinds g i
    { s.stream i with
      group := bound, state := if bound.isSome then .waiting else .unbound, fillRun := 0, holdStore := none, refs := 0,
      counters := Vector.replicate 12 0 })

/-! ### Requests (R139, R140) -/

/-- The engine's next taking is request `r`, at the head of port `p`'s queue with `rest` behind it: no reset pin and no soft reset
holds the engine, `p` has a free reply place, and `p` is the port after the last-served one, or is the last-served one while the
other is not eligible (R139). -/
def State.Serves (s : State) (p : TrunkId) (r : Request) (rest : List Request) : Prop :=
  s.hold = .none ∧ s.softPending = none ∧ (s.trunk p).requests = r :: rest ∧ (s.trunk p).replies.length < 4 ∧
    (p = s.lastTrunk + 1 ∨
      (p = s.lastTrunk ∧ ((s.trunk (p + 1)).requests = [] ∨ 4 ≤ (s.trunk (p + 1)).replies.length)))

/-- The state once the request has left its queue and its port has become the last-served one (R139). -/
def State.afterTaking (s : State) (p : TrunkId) (rest : List Request) : State :=
  { s with lastTrunk := p }.modTrunk p fun x => { x with requests := rest }

/-- Command `c` takes the request and answers with this status and these result words; `u` is the state with the request's effects.
The reply joins the tail of the port's reply queue and prompts the port's arbiter (R129, R138, R140), and credit waits begin or end
with the event (R125). -/
def Answers (c : Instr) (s : State) (p : TrunkId) (r : Request) (u : State) (status : Status) (results : List Word) : Prop :=
  exec c s =
    .next (s.withWaits fun _ =>
      (u.modTrunk p fun x =>
        { x with replies := x.replies ++ [{ tag := r.tag, name := r.name, status := status, results := results }] }).choose p)

/-- A refused request: "A refused request changes no state. Its reply carries a result count of 0" (R140). -/
def Refuses (c : Instr) (s : State) (p : TrunkId) (r : Request) (rest : List Request) (status : Status) : Prop :=
  Answers c s p r (s.afterTaking p rest) status []

/-- The words after a partial write: each item that the set names takes the value word that stands for it, "in the order of the set
bits, lowest bit first" (R175), and every other keeps its word. -/
def writtenWords (set : Word) (values old : List Word) : List Word :=
  old.zipIdx.map fun x => (namedValue set values x.2).getD x.1

/-- The value of a configuration field of WRITE_STREAM lies in its range (R33); items in the order of that rule's table. -/
def streamFieldInRange (k : Nat) (w : Word) : Prop :=
  match k with
  | 0 => w.toNat ≤ 1
  | 1 => w.toNat ≤ 15
  | 2 => 1 ≤ w.toNat ∧ w.toNat ≤ 8
  | 3 => -32 ≤ w.toInt ∧ w.toInt ≤ 32
  | 4 => w.toNat ≤ 2
  | 5 => True
  | 6 => w.toNat ≤ 1
  | 7 => 1 ≤ w.toNat ∧ w.toNat ≤ 255
  | _ => False

/-- The value of a parameter of GROUP_SET lies in its range (R103). -/
def groupParamInRange (k : Nat) (w : Word) : Prop :=
  match k with
  | 0 => 2 ≤ w.toNat ∧ w.toNat ≤ 64
  | 1 => 1 ≤ w.toNat ∧ w.toNat ≤ 65535
  | 2 => w.toNat ≤ 1
  | 3 => w.toNat ≤ 1
  | _ => False

/-! ### Classification (R64 to R66) -/

/-- The message passes steps 1 to 4: its stream is enabled, came from its bound port with its length, and is bound to `g` (R64,
R65). -/
def State.Routes (s : State) (p : NodeId) (m : SampleMsg) (g : GroupId) : Prop :=
  (s.stream m.stream).enabled = true ∧ (s.stream m.stream).port = p ∧ m.lengthField = (s.stream m.stream).length
    ∧ (s.stream m.stream).group = some g

/-- The adjusted instant of a message: its instant plus its stream's offset, modulo 2^32 (R20). -/
def State.adjusted (s : State) (m : SampleMsg) : Instant := m.instant + BitVec.ofInt 32 (s.stream m.stream).offset

/-- The bank that governs `n` has this generation and this list: the ARMED bank if there is one and `n` is S or after S, else the
ACTIVE bank (R41). -/
def Templates.Governs (t : Templates) (n : Instant) (gen : Generation) (slots : List Slot) : Prop :=
  (∃ a, t.armed = some a ∧ (n = a.switchAt ∨ before a.switchAt n = true) ∧ gen = a.generation ∧ slots = t.otherSlots) ∨
  ((∀ a, t.armed = some a → ¬(n = a.switchAt ∨ before a.switchAt n = true)) ∧ gen = t.activeGen ∧ slots = t.activeSlots)

/-- The message also passes steps 5 and 6: its group is not STOPPED, and slot `k` of the bank that governs its adjusted instant `n`
is its stream's first slot there and is due (R65, R66). -/
def State.Places (s : State) (p : NodeId) (m : SampleMsg) (g : GroupId) (n : Instant) (k : Nat) (gen : Generation) : Prop :=
  s.Routes p m g ∧ (s.group g).state.isStopped = false ∧ n = s.adjusted m ∧
    ∃ slots x, (s.group g).templates.Governs n gen slots ∧ slots[k]? = some x ∧ x.stream = m.stream ∧
      (∀ j y, j < k → slots[j]? = some y → y.stream ≠ m.stream) ∧ n.toNat % x.cadence = x.phase

end Sys2Proof.Machine
end

