-- ==== Sys2Proof/Certificates/Slice0/Obligations.lean ====
section
/-! DEFINITION. The statements for the provers, by the manual's chapters. -/

open Sys2Proof Sys2Proof.Machine

/-! ## The machine, reset and the reset pins -/

/-- A step takes the command at the front of the queue and runs it with the queue's rest.  The model's own rule of a step.
On an empty queue a step is one microsecond of the time count, which stays at 0 while PORn is low: the model's choice (log entry
2); "the time count stays at 0" while PORn is low is R153's. -/
def Obligations.StepRunsTheFrontCommand : Prop :=
  (∀ (c : Instr) (rest : List Instr) (s : State), s.pending = c :: rest → step s = exec c { s with pending := rest }) ∧
  (∀ s : State, s.pending = [] →
    step s = .next (if s.hold = .power then s else { s with time := s.time + 1 }))

/-- Every command answers a next state and leaves the queue of waiting commands as it is: no command of the manual stops the part. -/
def Obligations.EveryCommandAnswersNext : Prop :=
  ∀ (c : Instr) (s : State), ∃ t, exec c s = .next t ∧ t.pending = s.pending

/-- The part right after power-on reset, by the owners' tables: R2, R16, R19, R38, R56, R59, R61, R96, R101, R102, R117, R136, R152,
R157, R165.  (Close attempts, the last closed unit, lines without signal and a trunk port's unit in reception are the model's own: log
entries 10, 13, 14, 25.) -/
def Obligations.ResetLeavesThePowerOnValues : Prop :=
  State.reset.pending = [] ∧ State.reset.hold = .none ∧ State.reset.time = 0 ∧ State.reset.lastNode = 15 ∧ State.reset.intake = none ∧
  (∀ p, State.reset.node p =
    { line := false, link := .down, enabled := true, aligningRun := 0, failureRun := 0, present := false, fifo := [],
      episodeOpen := false, reception := none, counters := Vector.replicate 7 0 }) ∧
  (∀ i, State.reset.stream i =
    { enabled := false, port := 0, length := 1, offset := 0, fillPolicy := .zero, fillConstant := 0, dupPolicy := .keepFirst,
      threshold := 8, group := none, state := .unbound, fillRun := 0, holdStore := none, refs := 0,
      counters := Vector.replicate 12 0 }) ∧
  (∀ g, State.reset.group g =
    { state := .stopped, depth := 16, holdTime := 2000, early := .discard, empty := .skip, cursor := none, rows := [],
      lateRun := 0, lateLogged := false,
      templates := { activeBank := .bankA, activeSlots := [], activeGen := 0, otherSlots := [], armed := none },
      queue := [], attempts := 0, counters := Vector.replicate 12 0 }) ∧
  (∀ p, State.reset.trunk p =
    { line := false, link := .down, aligningRun := 0, failureRun := 0, credit := 0, markInterval := 1000, markTimer := none,
      markDebt := 0, markSequence := 0, starveLimit := 0, starveTimer := none, starveLogged := false, tx := none,
      lastClosed := [], requests := [], replies := [], reception := none, counters := Vector.replicate 6 0 }) ∧
  State.reset.freeRows.length = 96 ∧ State.reset.freeCells.length = 1024 ∧
  State.reset.lastTrunk = 1 ∧ State.reset.softPending = none ∧
  State.reset.log = { records := [], nextSequence := 0, overflowCount := 0, overflowFlag := false } ∧
  (∀ n : Fin 13, State.reset.alertMask.getLsbD n.val = (n.val == 5 || n.val == 6)) ∧
  State.reset.cause = .power ∧ State.reset.softCount = 0 ∧ State.reset.faultNLow = false

/-- POWER_ON_RESET, in every state: every piece of state at its power-on value and held there, the fault log empty and FAULT_N
released, a pending soft reset withdrawn (R153, R156). The rising order of the free lists is the model's choice (log entry 9), as
is the record of a unit that the reset cuts (log entries 10 and 26), which ends after a free number of bytes (log entry 22), and that a
trunk port's unit in reception is dropped (log entry 25).
PIN_RESET while no reset pin holds the part: the initial values, with the time count, the fault log, the alert mask and the soft
reset count kept, so that FAULT_N stays as it was; while a reset pin holds the part already, nothing but the pin's level changes
(R152, R153, R156, R167; log entry 7). -/
def Obligations.ResetPinsAreTaken : Prop :=
  (∀ s : State, ∃ t, exec .powerOnReset s = .next t ∧ s.AtInitialValues t ∧ t.hold = .power ∧ t.time = 0 ∧
    t.log = State.reset.log ∧ t.alertMask = State.reset.alertMask ∧ t.faultNLow = false ∧
    t.cause = .power ∧ t.softCount = 0 ∧ t.resetNLow = s.resetNLow) ∧
  (∀ s : State,
    (s.hold = .none → ∃ t, exec .pinReset s = .next t ∧ s.AtInitialValues t ∧ t.hold = .pin ∧ t.time = s.time ∧ t.log = s.log ∧
      t.alertMask = s.alertMask ∧ t.faultNLow = s.faultNLow ∧ t.cause = .pin ∧ t.softCount = s.softCount ∧ t.resetNLow = true) ∧
    (s.hold ≠ .none → exec .pinReset s = .next { s with resetNLow := true }))

/-- POWER_ON_RESET_RELEASE and PIN_RESET_RELEASE: each releases the hold of its own pin, and then every port looks at its line: one
whose line carries signal enters ALIGNING with its run at 0, and a node port records the signal (R2, R3, R117, R118, R153). Where
RESET_N is low at PORn's release the pin reset is taken then and holds the part on (R153, R167; that this release takes it is the
model's reading, log entry 7; the free lists' order, a trunk port's dropped reception and the record of a cut unit: log entries
9, 25, 10, 22 and 26). A release of a pin that does not hold the part changes at most the pin's level.
While a reset pin holds the part, every event but those of the reset pins and of the lines' signal leaves the state as it is, and
a signal event changes the level of its own line and nothing else (R153; the events that change nothing, and the levels that do,
are the model's reading, log entry 19). -/
def Obligations.HeldPartAndItsRelease : Prop :=
  (let released := fun (s : State) =>
    { s with
      hold := .none
      nodes := s.nodes.map fun x =>
        if x.line = true ∧ x.enabled = true then { x with present := true, link := .aligning, aligningRun := 0 }
        else { x with present := x.line }
      trunks := s.trunks.map fun x => if x.line then { x with link := .aligning, aligningRun := 0 } else x }
  ∀ s : State,
    (s.hold = .power → s.resetNLow = false → exec .powerOnResetRelease s = .next (released s)) ∧
    (s.hold = .power → s.resetNLow = true → ∃ t, exec .powerOnResetRelease s = .next t ∧ s.AtInitialValues t ∧ t.hold = .pin ∧
      t.resetNLow = true ∧ t.time = s.time ∧ t.log = s.log ∧ t.alertMask = s.alertMask ∧ t.cause = .pin ∧
      t.softCount = s.softCount) ∧
    (s.hold ≠ .power → exec .powerOnResetRelease s = .next s) ∧
    (s.hold = .pin → exec .pinResetRelease s = .next (released { s with resetNLow := false })) ∧
    (s.hold ≠ .pin → exec .pinResetRelease s = .next { s with resetNLow := false })) ∧
  (∀ (c : Instr) (s : State), s.hold ≠ .none →
    match c with
    | .powerOnReset | .powerOnResetRelease | .pinReset | .pinResetRelease => True
    | .nodeSignalPresent p => exec c s = .next (s.modNode p fun x => { x with line := true })
    | .nodeSignalLoss p => exec c s = .next (s.modNode p fun x => { x with line := false })
    | .trunkSignalPresent p => exec c s = .next (s.modTrunk p fun x => { x with line := true })
    | .trunkSignalLoss p => exec c s = .next (s.modTrunk p fun x => { x with line := false })
    | _ => exec c s = .next s)

/-- The soft reset, at each of its two events: the end of the OK reply to RESET on the pending port, and that port's leaving UP, by
signal loss or by loss of alignment, whose loggings stay in the log. Every owner's soft-reset values are taken, the configuration
kept, each ARMED bank switched before the streams are set WAITING (R2, R16, R19, R38, R56, R59, R61, R96, R101, R102, R117, R136,
R152, R154, R155, R157, R165, R167). A unit in transmission is cut, but for the reply that has ended. The rising order of the free
lists is the model's choice (log entry 9), as are the record of the last closed unit (log entries 10 and 22) and the dropping of a
trunk port's unit in reception (log entry 25). -/
def Obligations.SoftResetAtItsTwoEvents : Prop :=
  (∀ (s : State) (p : TrunkId) (r : Reply) (rest : List Reply) (u : TxUnit),
    s.hold = .none → s.softPending = some p → (s.trunk p).tx = some u → u.kind = .reply →
    (s.trunk p).replies = r :: rest → r.name = 22 → r.status = .ok →
    ∃ t, exec (.replyTransmissionEnd p) s = .next t ∧ s.AtSoftReset t ∧ t.log = s.log ∧
      (t.trunk p).lastClosed = u.wholeOnLine ∧ (∀ q, q ≠ p → ∃ k, (t.trunk q).lastClosed = (s.trunk q).closedByCut k)) ∧
  (∀ (s : State) (p : TrunkId) (c : Instr) (next : Link), s.hold = .none → s.softPending = some p → s.LosesUp p c next →
    ∃ t, exec c s = .next t ∧
      (if next = .down then s.modTrunk p fun x => { x with line := false } else s).AtSoftReset t ∧ s.LeavingLogged p t.log ∧
      ∀ q, ∃ k, (t.trunk q).lastClosed = (s.trunk q).closedByCut k)

/-! ## Node ports -/

/-- NODE_SIGNAL_PRESENT: the presence record is set, and an enabled port in DOWN enters ALIGNING with its aligning run at 0; a
disabled port only records the signal (R3).
NODE_SIGNAL_LOSS: the presence record is cleared, the port is DOWN, a unit in reception is dropped without a count; a port that
was UP flushes its FIFO, counting each message in FLUSHED and closing the overflow episode (R3, R7).
ALIGNING: an idle sequence and a unit with good CRC and good length add 1 to the aligning run, which at 4 takes the port to UP
with failure run 0; a unit with a bad CRC or a bad length, and stray symbols, set it to 0; nothing is counted and nothing placed
(R5). -/
def Obligations.NodeSignalAndAligning : Prop :=
  ((∀ (s : State) (p : NodeId), s.hold = .none →
    exec (.nodeSignalPresent p) s = .next (s.modNode p fun x =>
      if x.enabled = true ∧ x.link = .down then { x with line := true, present := true, link := .aligning, aligningRun := 0 }
      else { x with line := true, present := true })) ∧
  (∀ (s : State) (p : NodeId), s.hold = .none →
    exec (.nodeSignalLoss p) s = .next (s.modNode p fun x =>
      if x.link = .up then
        { x with line := false, present := false, link := .down, reception := none, fifo := [], episodeOpen := false,
                 counters := raise x.counters PortCounter.flushed.index x.fifo.length }
      else { x with line := false, present := false, link := .down, reception := none }))) ∧
  (let step1 := fun (x : NodePort) =>
    if 3 ≤ x.aligningRun then { x with aligningRun := 4, link := .up, failureRun := 0 }
    else { x with aligningRun := x.aligningRun + 1 }
  ∀ (s : State) (p : NodeId), s.hold = .none → (s.node p).link = .aligning →
    exec (.nodeIdleSequence p) s = .next (s.modNode p step1) ∧
    (∀ symbols m, judgeSample ((s.node p).reception.getD [] ++ symbols) = .good m →
      exec (.nodeUnitEnd p symbols) s = .next (s.modNode p fun x => step1 { x with reception := none })) ∧
    (∀ symbols, (∀ m, judgeSample ((s.node p).reception.getD [] ++ symbols) ≠ .good m) →
      exec (.nodeUnitEnd p symbols) s = .next (s.modNode p fun x => { x with reception := none, aligningRun := 0 })) ∧
    (∀ symbols, exec (.nodeStraySymbol p symbols) s = .next (s.modNode p fun x => { x with aligningRun := 0 })))

/-- A good message received in UP adds 1 to MESSAGES_GOOD and sets the failure run to 0.  A FIFO of fewer than four messages places
it behind the others; a full one refuses it, counts it in FIFO_OVERFLOW and keeps its four messages, and the refusal that opens an
overflow episode logs PORT_FIFO_OVERFLOW for the port (R6, R11, R12, R13). -/
def Obligations.GoodMessageIsPlacedOrRefused : Prop :=
  ∀ (s : State) (p : NodeId) (symbols : List LineSymbol) (m : SampleMsg), s.hold = .none → (s.node p).link = .up →
    judgeSample ((s.node p).reception.getD [] ++ symbols) = .good m →
    let good := fun (x : NodePort) =>
      { x with reception := none, failureRun := 0, counters := raise x.counters PortCounter.messagesGood.index 1 }
    let refused := s.modNode p fun x =>
      { good x with episodeOpen := true, counters := raise (good x).counters PortCounter.fifoOverflow.index 1 }
    exec (.nodeUnitEnd p symbols) s = .next
      (if (s.node p).fifo.length < 4 then s.modNode p fun x => { good x with fifo := x.fifo ++ [m] }
       else if (s.node p).episodeOpen = true then refused
       else refused.logFault (portLogging .portFifoOverflow (.node p)))

/-- A unit that fails its CRC check in UP, and stray symbols in UP, which are one such unit, add 1 to CHECK_ERRORS and to the failure
run; at 8 the port enters ALIGNING with run 0, its FIFO is flushed and counted, and PORT_ALIGN_LOST is logged (R6, R7, R8, R9).
A unit with a good CRC and a bad length in UP adds 1 to MALFORMED and sets the failure run to 0; it is placed nowhere (R6, R10). -/
def Obligations.FailingAndMalformedUnits : Prop :=
  (let fails := fun (s : State) (p : NodeId) =>
    let counted := fun (x : NodePort) => raise x.counters PortCounter.checkErrors.index 1
    if (s.node p).failureRun + 1 < 8 then
      s.modNode p fun x => { x with counters := counted x, failureRun := x.failureRun + 1 }
    else
      (s.modNode p fun x =>
        { x with
          counters := raise (counted x) PortCounter.flushed.index x.fifo.length, failureRun := x.failureRun + 1,
          fifo := [], episodeOpen := false, link := .aligning, aligningRun := 0 }).logFault
        (portLogging .portAlignLost (.node p))
  ∀ (s : State) (p : NodeId) (symbols : List LineSymbol), s.hold = .none → (s.node p).link = .up →
    exec (.nodeStraySymbol p symbols) s = .next (fails s p) ∧
    (judgeSample ((s.node p).reception.getD [] ++ symbols) = .badCrc →
      exec (.nodeUnitEnd p symbols) s = .next (fails (s.modNode p fun x => { x with reception := none }) p))) ∧
  (∀ (s : State) (p : NodeId) (symbols : List LineSymbol), s.hold = .none → (s.node p).link = .up →
    judgeSample ((s.node p).reception.getD [] ++ symbols) = .badLength →
    exec (.nodeUnitEnd p symbols) s = .next (s.modNode p fun x =>
      { x with reception := none, failureRun := 0, counters := raise x.counters PortCounter.malformed.index 1 }))

/-- A truncated unit changes neither run and no counter, on a node port and on a trunk port: only what is in reception changes, to
nothing after an abort delimiter and to a unit just begun after a start delimiter (R6, R8, R118).  In DOWN it is ignored (R4).
What a port ignores: every unit and every symbol in DOWN, and an idle sequence in DOWN and in UP, on a node port and on a trunk
port (R4, R5, R6, R118). -/
def Obligations.TruncatedAndIgnoredUnits : Prop :=
  (∀ (s : State) (ending : Truncation), s.hold = .none →
    let after : Option (List LineSymbol) := if ending = .byStart then some [] else none
    (∀ p, exec (.nodeTruncatedUnit p ending) s = .next
      (if (s.node p).link = .down then s else s.modNode p fun x => { x with reception := after })) ∧
    (∀ p, exec (.trunkTruncatedUnit p ending) s = .next
      (if (s.trunk p).link = .down then s else s.modTrunk p fun x => { x with reception := after }))) ∧
  (∀ (s : State) (symbols : List LineSymbol), s.hold = .none →
    (∀ p, (s.node p).link ≠ .aligning → exec (.nodeIdleSequence p) s = .next s) ∧
    (∀ p, (s.trunk p).link ≠ .aligning → exec (.trunkIdleSequence p) s = .next s) ∧
    (∀ p, (s.node p).link = .down → exec (.nodeUnitEnd p symbols) s = .next s ∧ exec (.nodeStraySymbol p symbols) s = .next s) ∧
    (∀ p, (s.trunk p).link = .down → exec (.trunkUnitEnd p symbols) s = .next s ∧ exec (.trunkStraySymbol p symbols) s = .next s))

/-! ## The intake, the window and the closes -/

/-- INTAKE_TAKING with the intake free: the first port with a message, searched from the port after the last-served one round to that
port itself, gives its head message; a FIFO left empty closes its overflow episode, the port becomes the last-served one, and the
intake classifies the message whole.  With the intake busy or every FIFO empty no taking is made (R14, R16, R17). -/
def Obligations.IntakeServesThePortsInRotation : Prop :=
  ∀ (s : State), s.hold = .none →
    (∀ (p : NodeId) (m : SampleMsg) (rest : List SampleMsg), s.intake = none → (s.node p).fifo = m :: rest →
      (∀ q : NodeId, q - s.lastNode - 1 < p - s.lastNode - 1 → (s.node q).fifo = []) →
      exec .intakeTaking s = .next
        ((({ s with lastNode := p } : State).modNode p fun x =>
          { x with fifo := rest, episodeOpen := if rest = [] then false else x.episodeOpen }).classify p m)) ∧
    ((s.intake ≠ none ∨ ∀ p, (s.node p).fifo = []) → exec .intakeTaking s = .next s)

/-- Steps 1 to 6 of the classification, the first that fails deciding: each discard raises its one counter and changes nothing else
(R20, R64, R65, R66). -/
def Obligations.DiscardsBeforeTheWindow : Prop :=
  ∀ (s : State) (p : NodeId) (m : SampleMsg),
    ((s.stream m.stream).enabled = false → s.classify p m = s.countNode p .unknownStream 1) ∧
    ((s.stream m.stream).enabled = true → (s.stream m.stream).port ≠ p → s.classify p m = s.countNode p .misrouted 1) ∧
    ((s.stream m.stream).enabled = true → (s.stream m.stream).port = p → m.lengthField ≠ (s.stream m.stream).length →
      s.classify p m = s.countStream m.stream .lengthDiscards) ∧
    ((s.stream m.stream).enabled = true → (s.stream m.stream).port = p → m.lengthField = (s.stream m.stream).length →
      (s.stream m.stream).group = none → s.classify p m = s.countStream m.stream .unboundDiscards) ∧
    (∀ g, s.Routes p m g → ((s.group g).state = .stopped ∨ (s.group g).state = .aborting) →
      s.classify p m = s.countStream m.stream .stoppedDiscards) ∧
    (∀ g gen (slots : List Slot), s.Routes p m g → ((s.group g).state = .running ∨ (s.group g).state = .draining) →
      (s.group g).templates.Governs (s.adjusted m) gen slots →
      ((∀ x ∈ slots, x.stream ≠ m.stream) → s.classify p m = s.countStream m.stream .notInGeneration) ∧
      (∀ (k : Nat) (x : Slot), slots[k]? = some x → x.stream = m.stream → (∀ (j : Nat) (y : Slot), j < k → slots[j]? = some y → y.stream ≠ m.stream) →
        (s.adjusted m).toNat % x.cadence ≠ x.phase → s.classify p m = s.countStream m.stream .offCadence))

/-- Step 8: an instant whose offset from the cursor is 2^31 or more is late.  Both LATE_DISCARDS counters rise, the late run rises and
stays at 64, and LATE_RUN is logged, once, when it stands at 64 with no open row (R57, R68, R69).
Step 9: in RUNNING an early message (offset D to 2^31 − 1) resyncs a group without open rows (RESYNC logged, RESYNCS counted) and
goes on to step 10; with open rows it is discarded and counted under DISCARD, and waits for a forced advance under ADVANCE, the intake
busy.  In DRAINING it is discarded as DRAINING, like any message in the window whose instant has no open row (R57, R70, R72). -/
def Obligations.LateAndEarlyMessages : Prop :=
  (∀ (s : State) (p : NodeId) (m : SampleMsg) (g : GroupId) (n : Instant) (k : Nat) (gen : Generation) (e : Instant),
    s.Places p m g n k gen → (s.group g).cursor = some e → (s.group g).depth ≤ 64 → 2147483648 ≤ (n - e).toNat →
    let run := if (s.group g).lateRun < 64 then (s.group g).lateRun + 1 else 64
    let counted := ((s.countStream m.stream .lateDiscards).countGroup g .lateDiscards 1)
    s.classify p m =
      if run = 64 ∧ (s.group g).rows = [] ∧ (s.group g).lateLogged = false then
        (counted.logFault (groupLogging .lateRun g)).modGroup g fun x => { x with lateRun := run, lateLogged := true }
      else counted.modGroup g fun x => { x with lateRun := run }) ∧
  (∀ (s : State) (p : NodeId) (m : SampleMsg) (g : GroupId) (n : Instant) (k : Nat) (gen : Generation) (e : Instant),
    s.Places p m g n k gen → (s.group g).cursor = some e →
    ((s.group g).state = .running → (s.group g).depth ≤ (n - e).toNat → (n - e).toNat ≤ 2147483647 →
      ((s.group g).rows = [] →
        s.classify p m =
          (((s.moveCursor g n).logFault (groupLogging .resync g)).countGroup g .resyncs 1).placeMessage g n k gen m) ∧
      ((s.group g).rows ≠ [] → (s.group g).early = .discard →
        s.classify p m = (s.countStream m.stream .earlyDiscards).countGroup g .earlyDiscards 1) ∧
      ((s.group g).rows ≠ [] → (s.group g).early = .advance →
        s.classify p m = { s with intake := some { port := p, msg := m, group := g, instant := n } })) ∧
    ((s.group g).state = .draining → (n - e).toNat ≤ 2147483647 → (s.group g).rowAt n = none →
      s.classify p m = s.countStream m.stream .drainingDiscards))

/-- Steps 12 to 14: a message of a RUNNING group in the window of a set cursor, or one that synchronises an unset cursor, whose
instant has no open row, takes the head cell and the head row of the free lists.  The row opens at its place in instant order with
the deadline one hold time ahead and the cell in the message's slot, the payload stands in the cell, ACCEPTED rises, the late run
ends, and an attempt is handed if the row is now governing and complete; the rest of the part is as it was (R60, R67, R74, R75). -/
def Obligations.FirstSampleOpensARow : Prop :=
  ∀ (s : State) (p : NodeId) (m : SampleMsg) (g : GroupId) (n : Instant) (k : Nat) (gen : Generation) (e : Instant)
    (c : CellId) (cs : List CellId) (rid : RowId) (rids : List RowId),
    s.Places p m g n k gen → (s.group g).state = .running → (s.group g).rowAt n = none →
    ((s.group g).cursor = none ∧ e = n ∧ 1 ≤ (s.group g).depth
      ∨ (s.group g).cursor = some e ∧ (n - e).toNat < (s.group g).depth) →
    s.freeCells = c :: cs → s.freeRows = rid :: rids →
    let row : Row :=
      { rowId := rid, instant := n, generation := gen, deadline := s.time + BitVec.ofNat 32 (s.group g).holdTime, expired := false,
        slotMap := (List.replicate ((s.group g).templates.slotsOf gen).length none).set k (some c) }
    let rows := insertRow e row (s.group g).rows
    let governing : Bool := decide (rows.head? = some row) && (s.group g).rowComplete row
    s.classify p m =
      ((({ s with freeCells := cs, freeRows := rids } : State).writeCell c m.payload).modGroup g fun x =>
        { x with
          cursor := some e, rows := rows, lateRun := 0, lateLogged := false,
          attempts := if governing then x.attempts + 1 else x.attempts }).countStream m.stream .accepted

/-- Step 13 into a row already open, in RUNNING or DRAINING, whose slot holds no cell: the head cell is taken and written, the slot
refers to it, ACCEPTED rises and the late run ends; with no free cell the message is discarded as CELL_EXHAUSTED (R75).
Step 11: a message whose slot already holds a cell is discarded under KEEP_FIRST, and under KEEP_LAST its words are written over
that cell; the row, the late run, ACCEPTED and the free lists stay (R73).
Step 12 with a pool empty, the cell pool first: the message is discarded, the group's counter rises, and the fault is logged with
the group as its subject; no row is opened (R74).  Where that message synchronises an unset cursor the synchronisation stands (R67). -/
def Obligations.ArrivalForAnOpenRowOrAnEmptyPool : Prop :=
  (∀ (s : State) (p : NodeId) (m : SampleMsg) (g : GroupId) (n : Instant) (k : Nat) (gen : Generation) (e : Instant) (r : Row),
    s.Places p m g n k gen → (s.group g).cursor = some e → (n - e).toNat < (s.group g).depth →
    (s.group g).rowAt n = some r → r.slotMap[k]? = some none →
    (s.freeCells = [] →
      s.classify p m = (s.countGroup g .cellExhausted 1).logFault (groupLogging .cellExhausted g)) ∧
    (∀ c cs, s.freeCells = c :: cs →
      let t :=
        ((({ s with freeCells := cs } : State).writeCell c m.payload).modGroup g fun x =>
          { x with
            rows := x.rows.map fun y => if y.instant = n then { y with slotMap := y.slotMap.set k (some c) } else y
            lateRun := 0, lateLogged := false }).countStream m.stream .accepted
      s.classify p m =
        if (t.group g).ripeGoverning.map Row.instant = some n then
          t.modGroup g fun x => { x with attempts := x.attempts + 1 }
        else t)) ∧
  (∀ (s : State) (p : NodeId) (m : SampleMsg) (g : GroupId) (n : Instant) (k : Nat) (gen : Generation) (e : Instant) (r : Row)
    (c : CellId),
    s.Places p m g n k gen → (s.group g).cursor = some e → (n - e).toNat < (s.group g).depth →
    (s.group g).rowAt n = some r → r.slotMap[k]? = some (some c) →
    s.classify p m =
      match (s.stream m.stream).dupPolicy with
      | .keepFirst => s.countStream m.stream .duplicate
      | .keepLast => (s.writeCell c m.payload).countStream m.stream .duplicateReplaced) ∧
  (∀ (s : State) (p : NodeId) (m : SampleMsg) (g : GroupId) (n : Instant) (k : Nat) (gen : Generation) (e : Instant),
    s.Places p m g n k gen → (s.group g).state = .running → (s.group g).cursor = some e → (n - e).toNat < (s.group g).depth →
    (s.group g).rowAt n = none →
    (s.freeCells = [] → s.classify p m = (s.countGroup g .cellExhausted 1).logFault (groupLogging .cellExhausted g)) ∧
    (s.freeCells ≠ [] → s.freeRows = [] →
      s.classify p m = (s.countGroup g .rowExhausted 1).logFault (groupLogging .rowExhausted g))) ∧
  (∀ (s : State) (p : NodeId) (m : SampleMsg) (g : GroupId) (n : Instant) (k : Nat) (gen : Generation),
    s.Places p m g n k gen → (s.group g).state = .running → (s.group g).cursor = none → 1 ≤ (s.group g).depth →
    (s.group g).rowAt n = none →
    let synchronised := s.modGroup g fun x => { x with cursor := some n }
    (s.freeCells = [] →
      s.classify p m = (synchronised.countGroup g .cellExhausted 1).logFault (groupLogging .cellExhausted g)) ∧
    (s.freeCells ≠ [] → s.freeRows = [] →
      s.classify p m = (synchronised.countGroup g .rowExhausted 1).logFault (groupLogging .rowExhausted g)))

/-- FORCED_ADVANCE declined: the group is no longer RUNNING, or has begun a new run and no cursor yet (log entry 6), or the advance to
n − D + 1 needs more places than its frame queue has free. The group keeps cursor, rows, queue and banks; the message is discarded
as early, both EARLY_DISCARDS counters rise, and the intake is free (R71, R95, R113). With no advance pending nothing changes (log
entry 4).
FORCED_ADVANCE taken: the instants of [E, E'), E' = n − D + 1, are handled, the cursor reaches E', the message goes on against it,
the intake is free, and a close attempt is handed (R71, R94, R95). Where no open row lies before E' and no bank is ARMED, under
SKIP, the whole advance is SKIPPED rising by the number of instants of [E, E') with a due slot (R83, R84).
The message that goes on is placed at step 10, its length not judged again (R20, R35); words it does not carry are free values
(log entry 21); a stream no longer bound to the group counts UNBOUND_DISCARDS (the model's choice, log entry 6). -/
def Obligations.ForcedAdvanceTakenOrDeclined : Prop :=
  (∀ s : State, s.hold = .none →
    (s.intake = none → exec .forcedAdvance s = .next s) ∧
    (∀ (w : WaitingMsg), s.intake = some w →
      let target := w.instant - BitVec.ofNat 32 (s.group w.group).depth + 1
      ((s.group w.group).state ≠ .running ∨ (s.group w.group).cursor = none ∨
        (∃ e, (s.group w.group).cursor = some e ∧ before e target = true ∧
          8 - (s.group w.group).queue.length < (s.group w.group).framesNeeded e target)) →
      exec .forcedAdvance s = .next
        ((({ s with intake := none } : State).countStream w.msg.stream .earlyDiscards).countGroup w.group .earlyDiscards 1))) ∧
  (∀ (s : State) (w : WaitingMsg) (e : Instant), s.hold = .none → s.intake = some w →
    (s.group w.group).state = .running → (s.group w.group).cursor = some e → (s.group w.group).templates.armed = none →
    (s.group w.group).empty = .skip → (∀ x ∈ (s.group w.group).templates.activeSlots, x.Lawful) →
    let target := w.instant - BitVec.ofNat 32 (s.group w.group).depth + 1
    before e target = true → (∀ r ∈ (s.group w.group).rows, (target - e).toNat ≤ (r.instant - e).toNat) →
    let skipped := ((List.range (target - e).toNat).filter fun i =>
      dueCount (s.group w.group).templates.activeSlots (e + BitVec.ofNat 32 i) != 0).length
    let moved := (({ s with intake := none } : State).countGroup w.group .skipped skipped).modGroup w.group
      fun x => { x with cursor := some target }
    exec .forcedAdvance s = .next
      ((moved.resumeMessage w).modGroup w.group fun x => { x with attempts := x.attempts + 1 })) ∧
  (∀ (s : State) (w : WaitingMsg) (e : Instant), s.hold = .none → s.intake = some w →
    (s.group w.group).state = .running → (s.group w.group).cursor = some e →
    let target := w.instant - BitVec.ofNat 32 (s.group w.group).depth + 1
    (before e target = true → (s.group w.group).framesNeeded e target ≤ 8 - (s.group w.group).queue.length) →
    let moved := State.advanceTo w.group target (2 * (s.group w.group).rows.length + 3) { s with intake := none }
    exec .forcedAdvance s = .next (s.withWaits fun _ =>
      (moved.resumeMessage w).modGroup w.group fun x => { x with attempts := x.attempts + 1 }) ∧
    ((s.group w.group).paramsLawful → (s.group w.group).windowLawful → (s.group w.group).templates.Lawful →
      before e target = true →
      (moved.group w.group).cursor = some target ∧ ∀ r ∈ (moved.group w.group).rows, before r.instant target = false)) ∧
  (∀ (s : State) (w : WaitingMsg),
    ((s.stream w.msg.stream).group ≠ some w.group → s.resumeMessage w = s.countStream w.msg.stream .unboundDiscards) ∧
    (∀ (k : Nat) (gen : Generation) (slots : List Slot) (x : Slot), (s.stream w.msg.stream).group = some w.group →
      (s.group w.group).templates.Governs w.instant gen slots → slots[k]? = some x → x.stream = w.msg.stream →
      (∀ (j : Nat) (y : Slot), j < k → slots[j]? = some y → y.stream ≠ w.msg.stream) → w.instant.toNat % x.cadence = x.phase →
      ((s.stream w.msg.stream).length ≤ w.msg.payload.length →
        s.resumeMessage w = s.placeMessage w.group w.instant k gen w.msg) ∧
      (w.msg.payload.length < (s.stream w.msg.stream).length → ∃ more : List Word,
        w.msg.payload.length + more.length = (s.stream w.msg.stream).length ∧
        s.resumeMessage w = ({ s with draws := s.draws + 1 } : State).placeMessage w.group w.instant k gen
          { w.msg with payload := w.msg.payload ++ more })))

/-- "Every cadence divides 8, so the due count of an instant repeats every 8 instants of one bank" (R71): the count taken before an
advance, by whole periods of 8, is the number of instants with a due slot, for every lawful list, start and length. -/
def Obligations.DueInstantsAreCountedExactly : Prop :=
  ∀ (slots : List Slot) (n : Instant) (len : Nat), (∀ x ∈ slots, x.Lawful) →
    dueInstants slots n len = ((List.range len).filter fun i => dueCount slots (n + BitVec.ofNat 32 i) != 0).length

/-- ROW_DEADLINE_EXPIRY of an open row not yet expired: the time count stands at the deadline if that lay ahead (log entry 3), the
row's expired flag is set, and a close attempt is handed if the row is the governing one.  An expired row, or an instant with no open
row, takes none (R76). -/
def Obligations.DeadlineExpirySetsTheFlag : Prop :=
  ∀ (s : State) (g : GroupId) (n : Instant), s.hold = .none →
    (∀ r, (s.group g).rowAt n = some r → r.expired = false →
      exec (.rowDeadlineExpiry g n) s = .next
        (({ s with time := if before s.time r.deadline then r.deadline else s.time } : State).modGroup g fun x =>
          { x with
            rows := x.rows.map fun y => if y.instant = n then { y with expired := true } else y
            attempts := if (x.rows.head?.map Row.instant) = some n then x.attempts + 1 else x.attempts })) ∧
    ((∀ r, (s.group g).rowAt n = some r → r.expired = true) → exec (.rowDeadlineExpiry g n) s = .next s)

/-- CLOSE_ATTEMPT that finds nothing to do: no open row, or a governing row that is neither complete nor expired; the attempt has been
taken and leaves no mark. With none handed there is nothing to take (R81; log entry 4).
CLOSE_ATTEMPT on a group whose one open row stands at the cursor, ripe, with a free frame-queue place: a record of the row is
placed at the queue's tail (COMPLETE if complete, else EXPIRED), one entry per due slot of the row's generation in slot order with
the slot's cell or a fill, the row joins the tail of the row free list, the cursor moves past it, and the arbiter is prompted;
with the queue full the row stays open (R82, R86, R87, R88, R129). The order record, row's release, cursor move with the switch,
arbiter's choice is the model's reading (log entry 5).
Every CLOSE_ATTEMPT with an attempt handed is the walk, whose moves WalkAndAdvanceMoves states, from the group with that attempt
taken (R81, R82); 64 moves are enough where the window laws hold: the walk stops with no ripe governing row or at a full frame
queue (log entry 17). -/
def Obligations.CloseAttemptOutcomes : Prop :=
  (∀ (s : State) (g : GroupId), s.hold = .none →
    ((s.group g).attempts = 0 → exec (.closeAttempt g) s = .next s) ∧
    ((s.group g).attempts ≠ 0 →
      ((s.group g).rows = [] ∨
        ∃ r rest, (s.group g).rows = r :: rest ∧ r.expired = false ∧ (s.group g).rowComplete r = false) →
      exec (.closeAttempt g) s = .next (s.modGroup g fun x => { x with attempts := x.attempts - 1 }))) ∧
  (∀ (s : State) (g : GroupId) (r : Row), s.hold = .none → (s.group g).attempts ≠ 0 → (s.group g).rows = [r] →
    (s.group g).cursor = some r.instant → ((s.group g).rowComplete r = true ∨ r.expired = true) →
    let u := s.modGroup g fun x => { x with attempts := x.attempts - 1 }
    let slots := (s.group g).templates.slotsOf r.generation
    let record : FrameRecord :=
      { instant := r.instant, generation := r.generation
        reason := if (s.group g).rowComplete r then .complete else .expired
        entries := (slots.zipIdx.filter fun x => r.instant.toNat % x.1.cadence == x.1.phase).map fun x =>
          { slot := x.2, stream := x.1.stream
            content := match (r.slotMap[x.2]?).join with
              | some c => .real c
              | none => .fill (s.stream x.1.stream).fillKind }
        holdMiss := false, inTransmission := false }
    ((s.group g).queue.length < 8 →
      exec (.closeAttempt g) s = .next (s.withWaits fun _ =>
        (((({ (u.placeRecord g record) with freeRows := s.freeRows ++ [r.rowId] } : State).modGroup g fun x =>
          { x with rows := [] }).moveCursor g (r.instant + 1)).choose g))) ∧
    (8 ≤ (s.group g).queue.length → exec (.closeAttempt g) s = .next u)) ∧
  (∀ (s : State) (g : GroupId), s.hold = .none → (s.group g).attempts ≠ 0 →
    let t := State.walk g 64 (s.modGroup g fun x => { x with attempts := x.attempts - 1 })
    exec (.closeAttempt g) s = .next (s.withWaits fun _ => t) ∧
    ((s.group g).paramsLawful → (s.group g).windowLawful → (s.group g).cursor ≠ none →
      (∀ r rest, (t.group g).rows = r :: rest → (t.group g).rowRipe r = false) ∨ 8 ≤ (t.group g).queue.length))

/-- One move of a walk whose governing row is ripe. At an empty instant E: with no due slot it is passed silently; with a due slot it
is counted in SKIPPED under SKIP, and under EMIT becomes an EMPTY record of fills where the frame queue has a place, while a full
queue stops the walk with E undecided. At the governing row's instant: the row is closed where there is a place, and the walk goes
on; a full queue stops it (R82, R83, R84, R85).
One move of a forced advance that has not reached its target. At an open row's instant the row is closed, ripe or not, COMPLETE if
complete and else FORCED. Else the run of empty instants up to the next open row, the switch instant or the target is passed:
under SKIP, or where none of them has a due slot, SKIPPED rises by those that have; under EMIT instant by instant, an EMPTY record
for each with a due slot (R71, R83, R84, R85, R87, R94).
The order placement, cursor move with the switch, arbiter's choice is the model's reading (log entry 5). -/
def Obligations.WalkAndAdvanceMoves : Prop :=
  (∀ (s : State) (g : GroupId) (fuel : Nat) (r : Row) (rest : List Row) (e : Instant),
    (s.group g).rows = r :: rest → (s.group g).rowRipe r = true → (s.group g).cursor = some e →
    countersLawful (s.group g).counters →
    let due := (s.group g).templates.activeSlots.zipIdx.filter fun x => e.toNat % x.1.cadence == x.1.phase
    (e ≠ r.instant → due = [] → State.walk g (fuel + 1) s = State.walk g fuel (s.moveCursor g (e + 1))) ∧
    (e ≠ r.instant → due ≠ [] → (s.group g).empty = .skip →
      State.walk g (fuel + 1) s = State.walk g fuel ((s.countGroup g .skipped 1).moveCursor g (e + 1))) ∧
    (e ≠ r.instant → due ≠ [] → (s.group g).empty = .emit → 8 ≤ (s.group g).queue.length → State.walk g (fuel + 1) s = s) ∧
    (e ≠ r.instant → due ≠ [] → (s.group g).empty = .emit → (s.group g).queue.length < 8 →
      let record : FrameRecord :=
        { instant := e, generation := (s.group g).templates.activeGen, reason := .empty
          entries := due.map fun x =>
            { slot := x.2, stream := x.1.stream, content := .fill (s.stream x.1.stream).fillKind }
          holdMiss := false, inTransmission := false }
      State.walk g (fuel + 1) s = State.walk g fuel (((s.placeRecord g record).moveCursor g (e + 1)).choose g)) ∧
    (e = r.instant → 8 ≤ (s.group g).queue.length → State.walk g (fuel + 1) s = s) ∧
    (e = r.instant → (s.group g).queue.length < 8 →
      State.walk g (fuel + 1) s =
        State.walk g fuel (s.closeRow g r (if (s.group g).rowComplete r then .complete else .expired)))) ∧
  (∀ (s : State) (g : GroupId) (target : Instant) (fuel : Nat) (e : Instant), (s.group g).cursor = some e →
    (before e target = false → State.advanceTo g target fuel s = s) ∧
    (∀ r, before e target = true → (s.group g).rowAt e = some r →
      State.advanceTo g target (fuel + 1) s =
        State.advanceTo g target fuel (s.closeRow g r (if (s.group g).rowComplete r then .complete else .forced))) ∧
    (∀ len : Nat, before e target = true → (s.group g).rowAt e = none → 1 ≤ len → len ≤ (target - e).toNat →
      (∀ i, 1 ≤ i → i < len → (s.group g).rowAt (e + BitVec.ofNat 32 i) = none ∧
        ∀ a, (s.group g).templates.armed = some a → a.switchAt ≠ e + BitVec.ofNat 32 i) →
      (len = (target - e).toNat ∨ (s.group g).rowAt (e + BitVec.ofNat 32 len) ≠ none ∨
        ∃ a, (s.group g).templates.armed = some a ∧ a.switchAt = e + BitVec.ofNat 32 len) →
      (∀ x ∈ (s.group g).templates.activeSlots, x.Lawful) →
      let due := ((List.range len).filter fun i =>
        dueCount (s.group g).templates.activeSlots (e + BitVec.ofNat 32 i) != 0).length
      ((s.group g).empty = .skip ∨ due = 0 →
        State.advanceTo g target (fuel + 1) s =
          State.advanceTo g target fuel ((s.countGroup g .skipped due).moveCursor g (e + BitVec.ofNat 32 len))) ∧
      ((s.group g).empty = .emit → due ≠ 0 →
        State.advanceTo g target (fuel + 1) s = State.advanceTo g target fuel (State.passEach g len s)))) ∧
  (∀ (s : State) (g : GroupId) (len : Nat) (e : Instant), (s.group g).cursor = some e → (s.group g).empty = .emit →
    countersLawful (s.group g).counters →
    let due := (s.group g).templates.activeSlots.zipIdx.filter fun x => e.toNat % x.1.cadence == x.1.phase
    State.passEach g 0 s = s ∧
    (due = [] → State.passEach g (len + 1) s = State.passEach g len (s.moveCursor g (e + 1))) ∧
    (due ≠ [] →
      let record : FrameRecord :=
        { instant := e, generation := (s.group g).templates.activeGen, reason := .empty
          entries := due.map fun x =>
            { slot := x.2, stream := x.1.stream, content := .fill (s.stream x.1.stream).fillKind }
          holdMiss := false, inTransmission := false }
      State.passEach g (len + 1) s = State.passEach g len (((s.placeRecord g record).moveCursor g (e + 1)).choose g)))

/-- Placing a record: it joins the tail of its group's frame queue, the frame counter of its close reason rises by 1, and nothing else
of that group nor anything of the other changes; the streams that its entries name gain a frame reference and take their monitor steps,
each entry once, in an order that the manual leaves free (log entry 5), and the faults they raise are logged in that order; every other
stream keeps its entry, and rows, cells, ports and
settings keep theirs (R32, R86, R91). -/
def Obligations.PlacingARecordIsFramed : Prop :=
  ∀ (s : State) (g : GroupId) (r : FrameRecord),
    let t := s.placeRecord g r
    let counter : GroupCounter := match r.reason with
      | .complete => .framesComplete
      | .expired => .framesExpired
      | .forced => .framesForced
      | .empty => .framesEmpty
    t.group g = { s.group g with queue := (s.group g).queue ++ [r], counters := raise (s.group g).counters counter.index 1 } ∧
    (∀ g', g' ≠ g → t.group g' = s.group g') ∧
    (∀ i, (∀ e ∈ r.entries, e.stream ≠ i) → t.stream i = s.stream i) ∧
    (∀ i, (r.entries.map Entry.stream).count i = 1 → (t.stream i).refs = (s.stream i).refs + 1) ∧
    (∃ order : List Entry, order.Perm r.entries ∧
      let stepped := order.foldl (fun u e => u.stepMonitor g r.instant e) (s.addRefs r.entries)
      (∀ i, t.stream i = stepped.stream i) ∧ t.log = stepped.log) ∧
    t = { s with groups := t.groups, streams := t.streams, log := t.log, draws := s.draws + 1 }

/-- A REAL entry's step: a stream bound to the record's group becomes LIVE with fill run 0, and STREAM_RECOVERED is logged, with
group, stream and instant, if it was LOST; a stream not bound to the group is not stepped (R25, R27, R28).
A fill entry's step: the fill run rises by 1, staying at 255, FILL_ENTRIES rises, and a WAITING or LIVE stream whose new run is at
or above its threshold enters LOST with STREAM_LOST logged; otherwise it stays in its state and nothing is logged (R26, R28, R37);
a stream not bound to the record's group is not stepped (R27).
The fill kind of a fill entry, from the stream's fill policy and its state before the step (R89). -/
def Obligations.LossMonitorAndFillKind : Prop :=
  (∀ (s : State) (g : GroupId) (n : Instant) (e : Entry) (c : CellId), e.content = .real c →
    ((s.stream e.stream).group = some g →
      let t := s.modStream e.stream fun x => { x with state := .live, fillRun := 0 }
      s.stepMonitor g n e =
        if (s.stream e.stream).state = .lost then
          t.logFault { kind := .streamRecovered, group := some g, stream := some e.stream, port := none, instant := some n }
        else t) ∧
    ((s.stream e.stream).group ≠ some g → s.stepMonitor g n e = s)) ∧
  (∀ (s : State) (g : GroupId) (n : Instant) (e : Entry) (kind : FillKind), e.content = .fill kind →
    (s.stream e.stream).group ≠ some g → s.stepMonitor g n e = s) ∧
  (∀ (s : State) (g : GroupId) (n : Instant) (e : Entry) (kind : FillKind), e.content = .fill kind → (s.stream e.stream).group = some g →
    let run := if (s.stream e.stream).fillRun < 255 then (s.stream e.stream).fillRun + 1 else 255
    let lost : Bool :=
      decide ((s.stream e.stream).state = .waiting ∨ (s.stream e.stream).state = .live)
        && decide ((s.stream e.stream).threshold ≤ run)
    let t := s.modStream e.stream fun x =>
      { x with
        fillRun := run, counters := raise x.counters StreamCounter.fillEntries.index 1
        state := if lost then .lost else x.state }
    s.stepMonitor g n e =
      if lost then t.logFault { kind := .streamLost, group := some g, stream := some e.stream, port := none, instant := some n }
      else t) ∧
  (∀ x : Stream,
    (x.fillPolicy = .zero → x.fillKind = .zero) ∧ (x.fillPolicy = .constant → x.fillKind = .const) ∧
    (x.fillPolicy = .hold → x.state = .live → x.fillKind = .hold) ∧
    (x.fillPolicy = .hold → x.state ≠ .live → x.fillKind = .zero))

/-- A cursor move that takes E from before S to S or past it takes the switch: the ARMED bank becomes ACTIVE with its generation, the
old ACTIVE bank IDLE with its list, S absent, and each stream bound to the group and not in the new ACTIVE list is unbound; any other
move changes the cursor alone (R23, R51, R58). -/
def Obligations.CursorReachingSTakesTheSwitch : Prop :=
  ∀ (s : State) (g : GroupId) (e n : Instant), (s.group g).cursor = some e →
    (∀ a, (s.group g).templates.armed = some a → before e a.switchAt = true → (n = a.switchAt ∨ before a.switchAt n = true) →
      let t := s.moveCursor g n
      t.group g = { s.group g with
        cursor := some n
        templates := { activeBank := (s.group g).templates.activeBank.other, activeSlots := (s.group g).templates.otherSlots,
                       activeGen := a.generation, otherSlots := (s.group g).templates.activeSlots, armed := none } } ∧
      (∀ i, t.stream i =
        if (s.stream i).group = some g ∧ (∀ x ∈ (s.group g).templates.otherSlots, x.stream ≠ i) then
          { s.stream i with group := none, state := .unbound, fillRun := 0, holdStore := none }
        else s.stream i) ∧
      (∀ g', g' ≠ g → t.group g' = s.group g') ∧
      t = { s with groups := t.groups, streams := t.streams }) ∧
    ((∀ a, (s.group g).templates.armed = some a → ¬(before e a.switchAt = true ∧ (n = a.switchAt ∨ before a.switchAt n = true))) →
      s.moveCursor g n = s.modGroup g fun x => { x with cursor := some n })

/-! ## Trunk ports -/

/-- TRUNK_SIGNAL_PRESENT: a port in DOWN enters ALIGNING with its aligning run at 0 (R118).
TRUNK_SIGNAL_LOSS.  In UP with no merged frame in transmission the port is DOWN, a unit in transmission is cut, credit and debt are
0, both queues are flushed, both timers stop, the starve logged flag stays, and TRUNK_DOWN is logged; the frame queue stays (R119,
R121).  In ALIGNING and DOWN the port is DOWN and nothing is logged (R118).  (A merged frame in transmission: FrameInTransmissionIsLost;
a soft reset pending on the port: SoftResetAtItsTwoEvents; the record of a unit
that is cut: log entries 10 and 22.) -/
def Obligations.TrunkSignalEvents : Prop :=
  (∀ (s : State) (p : TrunkId), s.hold = .none →
    exec (.trunkSignalPresent p) s = .next (s.modTrunk p fun x =>
      if x.link = .down then { x with line := true, link := .aligning, aligningRun := 0 } else { x with line := true })) ∧
  (∀ (s : State) (p : TrunkId), s.hold = .none →
    ((s.trunk p).link ≠ .up →
      exec (.trunkSignalLoss p) s = .next (s.modTrunk p fun x => { x with line := false, reception := none, link := .down })) ∧
    ((s.trunk p).link = .up → (s.group p).headSending = false → s.softPending ≠ some p →
      ∃ k, exec (.trunkSignalLoss p) s = .next
        ((({ s with draws := s.draws + 1 } : State).modTrunk p fun x =>
          { x with
            line := false, reception := none, link := .down, credit := 0, requests := [], replies := [], markDebt := 0
            markTimer := none, starveTimer := none, tx := none, lastClosed := x.closedByCut k }).logFault
          (portLogging .trunkDown (.trunk p)))))

/-- In ALIGNING an idle sequence and a well-formed CREDIT or REQUEST unit with a good CRC add 1 to the aligning run; a unit failing its
CRC or form check and stray symbols set it to 0; the unit is acted on by no block.  At 4 the port enters UP: failure run 0, mark
debt 1, the mark timer started one interval ahead if the interval is not 0, and a choice made (R5, R118, R120). -/
def Obligations.TrunkAligningAndEnteringUp : Prop :=
  ∀ (s : State) (p : TrunkId), s.hold = .none → (s.trunk p).link = .aligning →
    let step1 := fun (u : State) =>
      if (s.trunk p).aligningRun < 3 then u.modTrunk p fun x => { x with aligningRun := x.aligningRun + 1 }
      else (u.modTrunk p fun x =>
        { x with
          aligningRun := 4, link := .up, failureRun := 0, markDebt := 1
          markTimer := if x.markInterval = 0 then none else some (s.time + BitVec.ofNat 32 x.markInterval) }).choose p
    let dropped := s.modTrunk p fun x => { x with reception := none }
    exec (.trunkIdleSequence p) s = .next (s.withWaits fun _ => step1 s) ∧
    (∀ symbols, (∃ mode count, judgeTrunk ((s.trunk p).reception.getD [] ++ symbols) = .credit mode count) ∨
        (∃ r, judgeTrunk ((s.trunk p).reception.getD [] ++ symbols) = .request r) →
      exec (.trunkUnitEnd p symbols) s = .next (s.withWaits fun _ => step1 dropped)) ∧
    (∀ symbols, judgeTrunk ((s.trunk p).reception.getD [] ++ symbols) = .badCrc ∨
        judgeTrunk ((s.trunk p).reception.getD [] ++ symbols) = .badForm →
      exec (.trunkUnitEnd p symbols) s = .next (dropped.modTrunk p fun x => { x with aligningRun := 0 })) ∧
    (∀ symbols, exec (.trunkStraySymbol p symbols) s = .next (s.modTrunk p fun x => { x with aligningRun := 0 }))

/-- A merged frame in transmission is lost when its port leaves UP, by signal loss or by loss of alignment: the record leaves the
queue, the cells of its REAL entries return to the free list, its streams' frame references fall and no hold store is updated,
FRAMES_LOST_ON_LINK rises, a close attempt is handed, and TRUNK_DOWN and FRAME_LOST are logged in one order or the other (R118,
R119, R121, R133, R164). In DRAINING with nothing left the drain completes, with the switch of an ARMED bank and its unbindings,
and the aborting condition ends; in every other state the group goes on (R52, R98, R108, R111). (A soft reset pending on the port:
SoftResetAtItsTwoEvents. The order of the loggings and the bytes sent before the cut are free values, log entries 1 and 22; the
order of the cells is log entry 9, the record of the cut unit log entry 10.) -/
def Obligations.FrameInTransmissionIsLost : Prop :=
  ∀ (s : State) (p : TrunkId) (c : Instr) (next : Link) (head : FrameRecord) (rest : List FrameRecord),
    s.hold = .none → s.LosesUp p c next → (s.group p).queue = head :: rest → head.inTransmission = true → s.softPending ≠ some p →
    ∃ t, exec c s = .next t ∧
      t.group p =
        ({ s.group p with
          counters := raise (s.group p).counters GroupCounter.framesLostOnLink.index 1 } : Group).withoutHead rest ∧
      (∀ g, g ≠ p → t.group g = s.group g) ∧
      (∀ i,
        let x := if (s.group p).drains rest = true ∧ s.switchUnbinds p i = true then (s.stream i).unbound else s.stream i
        t.stream i = { x with refs := (s.stream i).refs - (head.entries.map Entry.stream).count i }) ∧
      (∃ k, t.trunk p =
        let x := s.trunk p
        { x with
          link := next, line := if next = .down then false else x.line, reception := (t.trunk p).reception
          aligningRun := if next = .down then x.aligningRun else 0
          failureRun := if next = .down then x.failureRun else x.failureRun + 1
          counters := if next = .down then x.counters else raise x.counters TrunkCounter.checkErrorsIn.index 1
          credit := 0, requests := [], replies := [], markDebt := 0, markTimer := none, starveTimer := none, tx := none
          lastClosed := x.closedByCut k }) ∧
      (∀ q, q ≠ p → t.trunk q = s.trunk q) ∧ s.LeavingLogged p t.log ∧
      t = { s with
        groups := t.groups, streams := t.streams, trunks := t.trunks, log := t.log, draws := t.draws
        freeCells := s.freeCells ++ realCells head.entries }

/-- A CREDIT frame in UP: an add raises the balance up to 255, what did not fit raising CREDIT_EXCESS; a set replaces it; a balance of
1 or above clears the starve logged flag and stops the starve timer; the arbiter makes a choice (R122, R123, R129).
A REQUEST frame in UP joins the tail of the port's request queue; with four requests held it is dropped, REQUESTS_DROPPED rises and
the four stay.  Nothing else changes but the failure run, which a good CRC sets to 0 (R122, R137). -/
def Obligations.CreditAndRequestFrames : Prop :=
  (∀ (s : State) (p : TrunkId) (symbols : List LineSymbol) (mode : CreditMode) (count : Nat), s.hold = .none →
    (s.trunk p).link = .up → judgeTrunk ((s.trunk p).reception.getD [] ++ symbols) = .credit mode count →
    let balance := match mode with
      | .add => if (s.trunk p).credit + count ≤ 255 then (s.trunk p).credit + count else 255
      | .set => count
    exec (.trunkUnitEnd p symbols) s = .next (s.withWaits fun _ =>
      (s.modTrunk p fun x =>
        { x with
          reception := none, failureRun := 0, credit := balance
          counters := match mode with
            | .add => raise x.counters TrunkCounter.creditExcess.index (x.credit + count - 255)
            | .set => x.counters
          starveLogged := if 1 ≤ balance then false else x.starveLogged
          starveTimer := if 1 ≤ balance then none else x.starveTimer }).choose p)) ∧
  (∀ (s : State) (p : TrunkId) (symbols : List LineSymbol) (r : Request), s.hold = .none →
    (s.trunk p).link = .up → judgeTrunk ((s.trunk p).reception.getD [] ++ symbols) = .request r →
    exec (.trunkUnitEnd p symbols) s = .next (s.modTrunk p fun x =>
      if x.requests.length < 4 then { x with reception := none, failureRun := 0, requests := x.requests ++ [r] }
      else { x with
        reception := none, failureRun := 0, counters := raise x.counters TrunkCounter.requestsDropped.index 1 }))

/-- A unit in UP that fails its CRC check, and stray symbols in UP, raise CHECK_ERRORS_IN and the failure run; below 8 nothing else
happens, and at 8 the port leaves UP for ALIGNING with run 0, without credit, debt and queues, TRUNK_DOWN logged. A unit with a
good CRC and a bad form raises CHECK_ERRORS_IN and sets the failure run to 0 (R118, R121, R122). (A frame in transmission at the
leaving: FrameInTransmissionIsLost; a soft reset pending on the port then: SoftResetAtItsTwoEvents; the record of a unit
that is cut: log entries 10 and 22.) -/
def Obligations.TrunkFailingUnits : Prop :=
  ∀ (s : State) (p : TrunkId) (symbols : List LineSymbol), s.hold = .none → (s.trunk p).link = .up →
    let dropped := s.modTrunk p fun x => { x with reception := none }
    let counted := fun (x : Trunk) =>
      { x with counters := raise x.counters TrunkCounter.checkErrorsIn.index 1, failureRun := x.failureRun + 1 }
    let lost := fun (u : State) (k : Nat) =>
      (({ u with draws := u.draws + 1 } : State).modTrunk p fun x =>
        { counted x with
          link := .aligning, aligningRun := 0, credit := 0, requests := [], replies := [], markDebt := 0
          markTimer := none, starveTimer := none, tx := none, lastClosed := x.closedByCut k }).logFault
        (portLogging .trunkDown (.trunk p))
    let fails := fun (u : State) (c : Instr) =>
      ((s.trunk p).failureRun + 1 < 8 → exec c s = .next (u.modTrunk p counted)) ∧
      (8 ≤ (s.trunk p).failureRun + 1 → (s.group p).headSending = false → s.softPending ≠ some p →
        ∃ k, exec c s = .next (lost u k))
    fails s (.trunkStraySymbol p symbols) ∧
    (judgeTrunk ((s.trunk p).reception.getD [] ++ symbols) = .badCrc → fails dropped (.trunkUnitEnd p symbols)) ∧
    (judgeTrunk ((s.trunk p).reception.getD [] ++ symbols) = .badForm →
      exec (.trunkUnitEnd p symbols) s = .next (dropped.modTrunk p fun x =>
        { x with counters := raise x.counters TrunkCounter.checkErrorsIn.index 1, failureRun := 0 }))

/-- STARVE_TIMER_EXPIRY of a running timer: CREDIT_STARVED is logged with port and group, the logged flag is set and the timer stops;
of a stopped timer nothing is taken (R125; the time count by log entry 3).
MARK_TIMER_EXPIRY of a running timer: it is restarted one interval later; a debt below 8 rises by 1, which prompts a choice; a debt
of 8 stays and MARK_OVERRUN is logged.  Of a stopped timer nothing is taken (R126; the time count by log entry 3). -/
def Obligations.TrunkTimerExpiries : Prop :=
  (∀ (s : State) (p : TrunkId), s.hold = .none →
    (∀ at_, (s.trunk p).starveTimer = some at_ →
      exec (.starveTimerExpiry p) s = .next
        ((({ s with time := if before s.time at_ then at_ else s.time } : State).logFault
          { kind := .creditStarved, group := some p, stream := none, port := some (.trunk p), instant := none }).modTrunk p fun x =>
            { x with starveLogged := true, starveTimer := none })) ∧
    ((s.trunk p).starveTimer = none → exec (.starveTimerExpiry p) s = .next s)) ∧
  (∀ (s : State) (p : TrunkId), s.hold = .none →
    (∀ at_, (s.trunk p).markTimer = some at_ →
      let now := if before s.time at_ then at_ else s.time
      let next := some (at_ + BitVec.ofNat 32 (s.trunk p).markInterval)
      ((s.trunk p).markDebt < 8 →
        exec (.markTimerExpiry p) s = .next (s.withWaits fun _ =>
          (({ s with time := now } : State).modTrunk p fun x => { x with markTimer := next, markDebt := x.markDebt + 1 }).choose p)) ∧
      (8 ≤ (s.trunk p).markDebt →
        exec (.markTimerExpiry p) s = .next
          ((({ s with time := now } : State).modTrunk p fun x => { x with markTimer := next }).logFault
            (portLogging .markOverrun (.trunk p))))) ∧
    ((s.trunk p).markTimer = none → exec (.markTimerExpiry p) s = .next s))

/-- FRAME_TRANSMISSION_END in a RUNNING group, or in a DRAINING one that holds anything more, in the order of R132: the REAL entries
of streams still bound to the group update their hold stores with the first L words of their cells, the cells return to the free
list, the record leaves the queue and its streams' frame references fall, FRAMES_SENT rises, a close attempt is handed, the
transmitter is free and the arbiter makes a choice (R30, R32, R98, R132, R170). (The order of the cells is log entry 9; the record of the
unit that closed is log entry 10.) -/
def Obligations.FrameEndInAnActiveGroup : Prop :=
  ∀ (s : State) (p : TrunkId) (u : TxUnit) (head : FrameRecord) (rest : List FrameRecord), s.hold = .none →
    (s.trunk p).tx = some u → u.kind = .frame → (s.group p).queue = head :: rest → head.inTransmission = true →
    ((s.group p).state = .running ∨ (s.group p).state = .draining ∧ ((s.group p).rows ≠ [] ∨ rest ≠ [])) →
    (head.entries.map Entry.stream).Nodup →
    ∃ t : State,
      exec (.frameTransmissionEnd p) s = .next (s.withWaits fun _ => t.choose p) ∧
      t.group p = { s.group p with queue := rest, attempts := (s.group p).attempts + 1 } ∧
      (∀ g, g ≠ p → t.group g = s.group g) ∧
      t.trunk p = { s.trunk p with
        tx := none, lastClosed := u.wholeOnLine, counters := raise (s.trunk p).counters TrunkCounter.framesSent.index 1 } ∧
      (∀ q, q ≠ p → t.trunk q = s.trunk q) ∧
      t.freeCells = s.freeCells ++ realCells head.entries ∧
      (∀ e ∈ head.entries, t.stream e.stream =
        { s.stream e.stream with
          refs := (s.stream e.stream).refs - 1
          holdStore := match e.content with
            | .real c =>
              if (s.stream e.stream).group = some p then some ((s.cell c).toList.take (s.stream e.stream).length)
              else (s.stream e.stream).holdStore
            | .fill _ => (s.stream e.stream).holdStore }) ∧
      (∀ i, (∀ e ∈ head.entries, e.stream ≠ i) → t.stream i = s.stream i) ∧
      t = { s with groups := t.groups, trunks := t.trunks, streams := t.streams, freeCells := t.freeCells }

/-- FRAME_TRANSMISSION_END of the last record of a DRAINING group without open rows completes the drain: its REAL entries update their
hold stores first, then the group is STOPPED, cursor unset, late run 0 with its flag clear, and an ARMED bank is switched: it is
ACTIVE with its generation, the old ACTIVE bank IDLE with its list, and each stream left in neither bank is unbound. In the
aborting condition the end leaves plain STOPPED and updates no hold store (R23, R30, R32, R51, R52, R108, R111, R132). Then the
transmitter is free and the arbiter makes a choice (R132, R170). (The order of the cells is log entry 9; the record of the unit
that closed is log entry 10.) -/
def Obligations.FrameEndCompletesADrainOrAnAbort : Prop :=
  ∀ (s : State) (p : TrunkId) (u : TxUnit) (head : FrameRecord), s.hold = .none →
    (s.trunk p).tx = some u → u.kind = .frame → (s.group p).queue = [head] → head.inTransmission = true → (s.group p).rows = [] →
    (head.entries.map Entry.stream).Nodup → (s.group p).state = .draining ∨ (s.group p).state = .aborting →
    let after := fun (i : StreamId) (x : Stream) =>
      if (s.group p).state = .draining ∧ s.switchUnbinds p i = true then x.unbound else x
    ∃ t : State,
      exec (.frameTransmissionEnd p) s = .next (s.withWaits fun _ => t.choose p) ∧
      ((s.group p).state = .draining →
        t.group p = { s.group p with
          state := .stopped, cursor := none, lateRun := 0, lateLogged := false, queue := [], attempts := (s.group p).attempts + 1
          templates := (s.group p).templates.switched }) ∧
      ((s.group p).state = .aborting →
        t.group p = { s.group p with state := .stopped, queue := [], attempts := (s.group p).attempts + 1 }) ∧
      (∀ g, g ≠ p → t.group g = s.group g) ∧
      (∀ e ∈ head.entries, t.stream e.stream = after e.stream
        { s.stream e.stream with
          refs := (s.stream e.stream).refs - 1
          holdStore := match e.content with
            | .real c =>
              if (s.group p).state = .draining ∧ (s.stream e.stream).group = some p then
                some ((s.cell c).toList.take (s.stream e.stream).length)
              else (s.stream e.stream).holdStore
            | .fill _ => (s.stream e.stream).holdStore }) ∧
      (∀ i, (∀ e ∈ head.entries, e.stream ≠ i) → t.stream i = after i (s.stream i)) ∧
      t.trunk p = { s.trunk p with
        tx := none, lastClosed := u.wholeOnLine, counters := raise (s.trunk p).counters TrunkCounter.framesSent.index 1 } ∧
      (∀ q, q ≠ p → t.trunk q = s.trunk q) ∧
      t = { s with
        groups := t.groups, trunks := t.trunks, streams := t.streams, freeCells := s.freeCells ++ realCells head.entries }

/-- MARK_TRANSMISSION_END: MARKS_SENT rises, the transmitter is free and the arbiter makes a choice.  REPLY_TRANSMISSION_END of any
reply but the OK reply to RESET: the reply leaves its queue, REPLIES_SENT rises, the transmitter is free and the arbiter makes a choice
(R127, R129, R134, R170).  (The record of the unit that closed is log entry 10.)
A transmission end taken while the port sends no unit of that kind changes nothing (log entry 4). -/
def Obligations.MarkAndReplyEnds : Prop :=
  (∀ (s : State) (p : TrunkId) (u : TxUnit), s.hold = .none → (s.trunk p).tx = some u →
    (u.kind = .mark →
      exec (.markTransmissionEnd p) s = .next (s.withWaits fun _ =>
        (s.modTrunk p fun x =>
          { x with tx := none, lastClosed := u.wholeOnLine, counters := raise x.counters TrunkCounter.marksSent.index 1 }).choose p)) ∧
    (∀ r rest, u.kind = .reply → (s.trunk p).replies = r :: rest → (s.softPending ≠ some p ∨ r.name ≠ 22 ∨ r.status ≠ .ok) →
      exec (.replyTransmissionEnd p) s = .next (s.withWaits fun _ =>
        (s.modTrunk p fun x =>
          { x with
            tx := none, lastClosed := u.wholeOnLine, replies := rest
            counters := raise x.counters TrunkCounter.repliesSent.index 1 }).choose p))) ∧
  (∀ (s : State) (p : TrunkId), s.hold = .none →
    ((∀ u, (s.trunk p).tx = some u → u.kind ≠ .mark) → exec (.markTransmissionEnd p) s = .next s) ∧
    ((∀ u, (s.trunk p).tx = some u → u.kind ≠ .reply) → exec (.replyTransmissionEnd p) s = .next s) ∧
    ((∀ u, (s.trunk p).tx = some u → u.kind ≠ .frame) → exec (.frameTransmissionEnd p) s = .next s))

/-- The transmit arbiter's choice, made in UP with the transmitter free: a mark at debt 8; else the head reply; else the head of the
frame queue, not in transmission, with a balance of at least 1; else a mark with a debt of at least 1; else nothing. In any other
case no choice is made (R129).
What the start of a unit does. A mark takes the sequence number, the sequence rises by 1 and wraps, the debt falls by 1. A merged
frame spends one credit, its record is marked in transmission and keeps its place, and its hold-miss flag is set exactly where a
FILL_HOLD entry finds its stream's hold store invalid. A reply keeps its place. Each changes nothing else but the unit in
transmission, whose bytes are those of the header, the body that the tables of R173 lay out, and the CRC (R123, R127, R131, R134,
R171, R173).
The words of an entry at the start of its frame: a REAL entry the first L words of its cell, FILL_ZERO L zero words, FILL_CONST
the constant L times, FILL_HOLD the hold store's words if valid and else L zero words; always exactly L words (R31, R131). -/
def Obligations.TransmitArbiterAndStarts : Prop :=
  (∀ (s : State) (p : TrunkId),
    ((s.trunk p).link ≠ .up ∨ (s.trunk p).tx ≠ none → s.choose p = s) ∧
    ((s.trunk p).link = .up → (s.trunk p).tx = none →
      (8 ≤ (s.trunk p).markDebt → s.choose p = s.startMark p) ∧
      ((s.trunk p).markDebt < 8 →
        (∀ r rest, (s.trunk p).replies = r :: rest → s.choose p = s.startReply p r) ∧
        ((s.trunk p).replies = [] →
          (∀ head rest, (s.group p).queue = head :: rest → head.inTransmission = false → 1 ≤ (s.trunk p).credit →
            s.choose p = s.startFrame p head rest) ∧
          (((s.group p).queue = [] ∨ (s.group p).headSending = true ∨ (s.trunk p).credit = 0) →
            (1 ≤ (s.trunk p).markDebt → s.choose p = s.startMark p) ∧
            ((s.trunk p).markDebt = 0 → s.choose p = s)))))) ∧
  ((∀ (s : State) (p : TrunkId),
    let x := s.trunk p
    let g := s.group p
    let armed := g.templates.armed
    let header := fun (kind : Nat) (body : List Word) =>
      ((BitVec.ofNat 8 kind ++ BitVec.ofNat 8 p.val ++ BitVec.ofNat 16 body.length : BitVec 32) :: body)
    let bit := fun (b : Bool) => if b then 1#8 else 0#8
    s.startMark p = s.modTrunk p (fun y =>
      { y with
        markSequence := y.markSequence + 1, markDebt := y.markDebt - 1
        tx := some { kind := .mark, bytes := unitBytes (header 2
          [(BitVec.ofNat 8 g.state.code ++ BitVec.ofNat 8 g.rows.length ++ BitVec.ofNat 8 g.queue.length
              ++ BitVec.ofNat 8 (x.markDebt - 1) : BitVec 32),
           (x.markSequence ++ BitVec.ofNat 8 x.credit ++ BitVec.ofNat 8 s.log.records.length : BitVec 32),
           (bit g.cursor.isSome ++ bit armed.isSome ++ bit s.log.overflowFlag ++ 0#8 : BitVec 32),
           g.cursor.getD 0,
           (g.templates.activeGen ++ (armed.map Armed.generation).getD 0 : BitVec 32),
           (armed.map Armed.switchAt).getD 0,
           (BitVec.ofNat 16 s.freeRows.length ++ BitVec.ofNat 16 s.freeCells.length : BitVec 32)]) } }) ∧
    (∀ r : Reply, s.startReply p r = s.modTrunk p fun y =>
      { y with tx := some { kind := .reply, bytes := unitBytes (header 3
          ((r.tag ++ r.name ++ BitVec.ofNat 8 r.status.code ++ 0#8 : BitVec 32)
            :: (BitVec.ofNat 16 r.results.length ++ 0#16 : BitVec 32) :: r.results)) } }) ∧
    (∀ head rest, ∃ (miss : Bool) (fills : Word),
      s.startFrame p head rest =
        (s.modGroup p fun y => { y with queue := { head with inTransmission := true, holdMiss := miss } :: rest }).modTrunk p
          (fun y => { y with
            credit := y.credit - 1
            tx := some { kind := .frame, bytes := unitBytes (header 1
              ((BitVec.ofNat 8 p.val ++ BitVec.ofNat 8 head.reason.code ++ bit miss ++ BitVec.ofNat 8 head.entries.length : BitVec 32)
                :: head.instant :: (head.generation ++ 0#16 : BitVec 32) :: fills :: head.entries.flatMap s.entryWords)) } }) ∧
      (miss = true ↔ ∃ e ∈ head.entries, e.content = .fill .hold ∧ (s.stream e.stream).holdStore = none) ∧
      (∀ i, i < 32 → (fills.getLsbD i = true ↔ ∃ e ∈ head.entries, e.slot = i ∧ ∃ kind, e.content = .fill kind)))) ∧
  (∀ (s : State) (e : Entry),
    let x := s.stream e.stream
    x.length ≤ 8 → (∀ ws, x.holdStore = some ws → ws.length = x.length) →
    (s.entryWords e).length = x.length ∧
    (∀ c, e.content = .real c → s.entryWords e = (s.cell c).toList.take x.length) ∧
    (e.content = .fill .zero → s.entryWords e = List.replicate x.length 0) ∧
    (e.content = .fill .const → s.entryWords e = List.replicate x.length x.fillConstant) ∧
    (e.content = .fill .hold → s.entryWords e = x.holdStore.getD (List.replicate x.length 0))))

/-- What one event does to a starve timer: a credit wait that begins starts it, one starve limit ahead, where a limit is set and the
logged flag is clear; a wait that ends stops it; nothing else of the part changes (R125). That a wait which ends and begins again
within one event starts no new timer is the model's reading (log entry 20). -/
def Obligations.CreditWaitRunsTheStarveTimer : Prop :=
  ∀ (s : State) (f : State → State) (p : TrunkId),
    let t := s.withWaits f
    t = { f s with trunks := t.trunks } ∧
    t.trunk p = { (f s).trunk p with
      starveTimer :=
        if s.creditWait p = false ∧ (f s).creditWait p = true ∧ ((f s).trunk p).starveLimit ≠ 0 ∧ ((f s).trunk p).starveLogged = false then
          some ((f s).time + BitVec.ofNat 32 (((f s).trunk p).starveLimit * 1000))
        else if s.creditWait p = true ∧ (f s).creditWait p = false then none
        else ((f s).trunk p).starveTimer }

/-! ## Management requests -/

/-- PING: the part code 1602, revision 1, the last reset cause, the soft reset count, the arriving port and the time count.
PORT_STATUS: enable, link state and FIFO depth of NP0 to NP15. RESET: an OK reply and the soft reset pending on the port. Each
takes no argument and answers BAD_LENGTH to any. A name that is not defined (0 and 23 to 255) is refused with BAD_OPCODE (R140,
R141, R145, R154, R175). -/
def Obligations.RequestsWithoutArguments : Prop :=
  ∀ (s : State) (p : TrunkId) (r : Request) (rest : List Request), s.Serves p r rest →
    (r.name = 1 →
      (r.args ≠ [] → Refuses .ping s p r rest .badLength) ∧
      (r.args = [] → Answers .ping s p r (s.afterTaking p rest) .ok
        [1602, 1, natWord s.cause.code, natWord s.softCount, natWord p.val, s.time])) ∧
    (r.name = 15 →
      (r.args ≠ [] → Refuses .portStatus s p r rest .badLength) ∧
      (r.args = [] → Answers .portStatus s p r (s.afterTaking p rest) .ok
        ((List.finRange 16).flatMap fun q =>
          [flagWord (s.node q).enabled, natWord (s.node q).link.code, natWord (s.node q).fifo.length]))) ∧
    (r.name = 22 →
      (r.args ≠ [] → Refuses .reset s p r rest .badLength) ∧
      (r.args = [] → Answers .reset s p r { s.afterTaking p rest with softPending := some p } .ok [])) ∧
    ((r.name = 0 ∨ 23 ≤ r.name.toNat) → Refuses .undefinedRequest s p r rest .badOpcode)

/-- READ_STREAM, TEMPLATE_READ, GROUP_STATUS and ROW_LIST: the checks of each in order, and the result words of each, a presence word
before every result that stands only in some cases; none of them changes anything (R45, R142, R143, R144, R173, R175; the hold
store's flag serves as its presence word, log entry 8). -/
def Obligations.StatusReadsReportTheState : Prop :=
  ∀ (s : State) (p : TrunkId) (r : Request) (rest : List Request), s.Serves p r rest →
    let u := s.afterTaking p rest
    (r.name = 2 →
      (r.args.length ≠ 1 → Refuses .readStream s p r rest .badLength) ∧
      (∀ w, r.args = [w] → 64 ≤ w.toNat → Refuses .readStream s p r rest .badArgument) ∧
      (∀ i : StreamId, r.args = [natWord i.val] → Answers .readStream s p r u .ok
        (let x := s.stream i
         [flagWord x.enabled, natWord x.port.val, natWord x.length, BitVec.ofInt 32 x.offset, natWord x.fillPolicy.code,
          x.fillConstant, natWord x.dupPolicy.code, natWord x.threshold, natWord (groupCode x.group), natWord x.state.code,
          natWord x.fillRun, natWord x.refs] ++
          match x.holdStore with
          | none => [0]
          | some ws => 1 :: exactWords x.length ws))) ∧
    (r.name = 6 →
      (r.args.length ≠ 2 → Refuses .templateRead s p r rest .badLength) ∧
      (∀ w b, r.args = [w, b] → 2 ≤ w.toNat ∨ 2 ≤ b.toNat → Refuses .templateRead s p r rest .badArgument) ∧
      (∀ g : GroupId,
        let x := (s.group g).templates
        (r.args = [natWord g.val, 0] → Answers .templateRead s p r u .ok
          ([natWord x.activeBank.code, 0, 1, natWord x.activeGen.toNat, 0, natWord x.activeSlots.length]
            ++ x.activeSlots.flatMap fun y => [natWord y.stream.val, natWord y.cadence, natWord y.phase])) ∧
        (r.args = [natWord g.val, 1] → Answers .templateRead s p r u .ok
          ((match x.armed with
            | none => [natWord x.activeBank.other.code, 1, 0, 0]
            | some a => [natWord x.activeBank.other.code, 2, 1, natWord a.generation.toNat, 1, a.switchAt])
            ++ natWord x.otherSlots.length
            :: x.otherSlots.flatMap fun y => [natWord y.stream.val, natWord y.cadence, natWord y.phase])))) ∧
    (r.name = 13 →
      (r.args.length ≠ 1 → Refuses .groupStatus s p r rest .badLength) ∧
      (∀ w, r.args = [w] → 2 ≤ w.toNat → Refuses .groupStatus s p r rest .badArgument) ∧
      (∀ g : GroupId, r.args = [natWord g.val] → Answers .groupStatus s p r u .ok
        (let x := s.group g
         let t := s.trunk g
         [natWord x.state.code]
           ++ (match x.cursor with
            | none => [0]
            | some e => [1, e])
           ++ [natWord x.rows.length, natWord x.lateRun, natWord x.queue.length, flagWord x.headSending,
               natWord x.templates.activeGen.toNat]
           ++ (match x.templates.armed with
            | none => [0]
            | some a => [1, natWord a.generation.toNat, a.switchAt])
           ++ [natWord x.depth, natWord x.holdTime, natWord x.early.code, natWord x.empty.code, natWord s.freeRows.length,
               natWord s.freeCells.length, natWord t.link.code, natWord t.credit, natWord t.markDebt, natWord t.markInterval,
               natWord t.starveLimit, flagWord t.starveLogged]))) ∧
    (r.name = 14 →
      (r.args.length ≠ 2 → Refuses .rowList s p r rest .badLength) ∧
      (∀ w k, r.args = [w, k] → 2 ≤ w.toNat ∨ 64 ≤ k.toNat → Refuses .rowList s p r rest .badArgument) ∧
      (∀ (g : GroupId) (k : Word), r.args = [natWord g.val, k] → k.toNat ≤ 63 → Answers .rowList s p r u .ok
        (let shown := ((s.group g).rows.drop k.toNat).take 16
         natWord (s.group g).rows.length :: natWord shown.length ::
           shown.flatMap fun y =>
             [y.instant, natWord y.generation.toNat, natWord ((s.group g).rowDue y), natWord y.present,
              flagWord ((s.group g).rowRipe y), if y.expired then 0 else y.deadline - s.time])))

/-- WRITE_STREAM, its checks in order: BAD_LENGTH, BAD_ARGUMENT, IN_USE for a restricted field of a stream that is not UNBOUND or the
payload length with frame references; else every named field takes its value word, every other field and the rest of the entry stay,
and the reply carries the state and the fill run (R33, R34, R35, R36). -/
def Obligations.WriteStreamWritesTheNamedFields : Prop :=
  ∀ (s : State) (p : TrunkId) (r : Request) (rest : List Request), s.Serves p r rest → r.name = 3 →
    (r.args.length < 2 → Refuses .writeStream s p r rest .badLength) ∧
    (∀ w set values, r.args = w :: set :: values →
      (values.length ≠ namedCount 8 set → Refuses .writeStream s p r rest .badLength) ∧
      (values.length = namedCount 8 set →
        (64 ≤ w.toNat ∨ set.toNat = 0 ∨ 256 ≤ set.toNat ∨
            (∃ k v, k < 8 ∧ namedValue set values k = some v ∧ ¬streamFieldInRange k v) →
          Refuses .writeStream s p r rest .badArgument) ∧
        (∀ i : StreamId, w = natWord i.val → 1 ≤ set.toNat → set.toNat < 256 →
          (∀ k v, k < 8 → namedValue set values k = some v → streamFieldInRange k v) →
          let restricted := ∃ k, k < 4 ∧ set.getLsbD k = true
          (restricted ∧ (s.stream i).state ≠ .unbound ∨ set.getLsbD 2 = true ∧ 0 < (s.stream i).refs →
            Refuses .writeStream s p r rest .inUse) ∧
          (¬(restricted ∧ (s.stream i).state ≠ .unbound ∨ set.getLsbD 2 = true ∧ 0 < (s.stream i).refs) →
            ∃ x : Stream, x.configWords = writtenWords set values (s.stream i).configWords ∧
              x = { s.stream i with
                enabled := x.enabled, port := x.port, length := x.length, offset := x.offset, fillPolicy := x.fillPolicy
                fillConstant := x.fillConstant, dupPolicy := x.dupPolicy, threshold := x.threshold } ∧
              Answers .writeStream s p r ((s.afterTaking p rest).setStream i x) .ok
                [natWord (s.stream i).state.code, natWord (s.stream i).fillRun]))))

/-- TEMPLATE_LOAD, its checks in order, replaces the IDLE list and nothing else; TEMPLATE_COPY, its checks in order, makes it the ACTIVE
list; a group with an ARMED bank answers LOCKED to both (R43, R44, R46). -/
def Obligations.TemplateLoadAndCopyEditTheIdleBank : Prop :=
  ∀ (s : State) (p : TrunkId) (r : Request) (rest : List Request), s.Serves p r rest →
    let u := s.afterTaking p rest
    (r.name = 4 →
      (r.args.length < 2 → Refuses .templateLoad s p r rest .badLength) ∧
      (∀ w count words, r.args = w :: count :: words →
        (words.length ≠ 3 * count.toNat → Refuses .templateLoad s p r rest .badLength) ∧
        (words.length = 3 * count.toNat →
          2 ≤ w.toNat ∨ 32 < count.toNat ∨
            (∃ j a c f, j < count.toNat ∧ words[3 * j]? = some a ∧ words[3 * j + 1]? = some c ∧ words[3 * j + 2]? = some f ∧
              (64 ≤ a.toNat ∨ ¬(c.toNat = 1 ∨ c.toNat = 2 ∨ c.toNat = 4 ∨ c.toNat = 8) ∨ c.toNat ≤ f.toNat)) →
          Refuses .templateLoad s p r rest .badArgument)) ∧
      (∀ (g : GroupId) (slots : List Slot), (∀ x ∈ slots, x.Lawful) → slots.length ≤ 32 →
        r.args = natWord g.val :: natWord slots.length ::
          (slots.flatMap fun x => [natWord x.stream.val, natWord x.cadence, natWord x.phase]) →
        ((s.group g).templates.armed ≠ none → Refuses .templateLoad s p r rest .locked) ∧
        ((s.group g).templates.armed = none →
          (¬(slots.map Slot.stream).Nodup ∨ (∃ x ∈ slots, (s.stream x.stream).enabled = false) →
            Refuses .templateLoad s p r rest .conflict) ∧
          ((slots.map Slot.stream).Nodup → (∀ x ∈ slots, (s.stream x.stream).enabled = true) →
            Answers .templateLoad s p r
              (u.modGroup g fun x => { x with templates := { x.templates with otherSlots := slots } }) .ok
              [natWord slots.length])))) ∧
    (r.name = 5 →
      (r.args.length ≠ 1 → Refuses .templateCopy s p r rest .badLength) ∧
      (∀ w, r.args = [w] → 2 ≤ w.toNat → Refuses .templateCopy s p r rest .badArgument) ∧
      (∀ g : GroupId, r.args = [natWord g.val] →
        ((s.group g).templates.armed ≠ none → Refuses .templateCopy s p r rest .locked) ∧
        ((s.group g).templates.armed = none →
          Answers .templateCopy s p r
            (u.modGroup g fun x => { x with templates := { x.templates with otherSlots := x.templates.activeSlots } }) .ok
            [natWord (s.group g).templates.activeSlots.length])))

/-- TEMPLATE_COMMIT, its checks in order.  With the cursor unset it is immediate: the banks change roles with the ACTIVE generation
plus 1, newly present streams are bound WAITING and streams left out are unbound.  With the cursor set it is armed for E + D, or for
the instant carried in mode AT, refused with TOO_SOON where that lies before E + D or 2^31 or more beyond E; newly present streams are
bound at once and none is unbound (R22, R23, R39, R47, R48, R49). -/
def Obligations.TemplateCommitTakesOverOrArms : Prop :=
  ∀ (s : State) (p : TrunkId) (r : Request) (rest : List Request), s.Serves p r rest → r.name = 7 →
    let u := s.afterTaking p rest
    (r.args.length ≠ 3 → Refuses .templateCommit s p r rest .badLength) ∧
    (∀ w mode n, r.args = [w, mode, n] → 2 ≤ w.toNat ∨ 2 ≤ mode.toNat → Refuses .templateCommit s p r rest .badArgument) ∧
    (∀ (g : GroupId) (mode n : Word), r.args = [natWord g.val, mode, n] → mode.toNat ≤ 1 →
      let x := (s.group g).templates
      let conflict := ∃ y ∈ x.otherSlots, (s.stream y.stream).enabled = false ∨
        ((s.stream y.stream).group ≠ none ∧ (s.stream y.stream).group ≠ some g)
      let isNew := fun i : StreamId => (∃ y ∈ x.otherSlots, y.stream = i) ∧ (∀ y ∈ x.activeSlots, y.stream ≠ i)
      let bound := fun i : StreamId => { s.stream i with group := some g, state := .waiting, fillRun := 0, holdStore := none }
      (x.armed ≠ none → Refuses .templateCommit s p r rest .locked) ∧
      (x.armed = none → conflict → Refuses .templateCommit s p r rest .conflict) ∧
      (x.armed = none → ¬conflict → (s.group g).cursor = none →
        ∃ t, Answers .templateCommit s p r t .ok [0, natWord (x.activeGen + 1).toNat, 0] ∧
          t.group g = { s.group g with
            templates := { activeBank := x.activeBank.other, activeSlots := x.otherSlots, activeGen := x.activeGen + 1,
                           otherSlots := x.activeSlots, armed := none } } ∧
          (∀ g', g' ≠ g → t.group g' = s.group g') ∧
          (∀ i, (isNew i → t.stream i = bound i) ∧
            (¬isNew i → (s.stream i).group = some g → (∀ y ∈ x.otherSlots, y.stream ≠ i) →
              t.stream i = { s.stream i with group := none, state := .unbound, fillRun := 0, holdStore := none }) ∧
            (¬isNew i → ((s.stream i).group ≠ some g ∨ ∃ y ∈ x.otherSlots, y.stream = i) → t.stream i = s.stream i)) ∧
          t = { u with groups := t.groups, streams := t.streams }) ∧
      (∀ e, x.armed = none → ¬conflict → (s.group g).cursor = some e →
        let earliest := e + BitVec.ofNat 32 (s.group g).depth
        let tooSoon := mode = 1 ∧ (¬(n = earliest ∨ before earliest n = true) ∨ 2147483648 ≤ (n - e).toNat)
        let at_ := if mode = 1 then n else earliest
        (tooSoon → Refuses .templateCommit s p r rest .tooSoon) ∧
        (¬tooSoon →
          ∃ t, Answers .templateCommit s p r t .ok [1, natWord (x.activeGen + 1).toNat, 1, at_] ∧
            t.group g = { s.group g with
              templates := { x with armed := some { generation := x.activeGen + 1, switchAt := at_ } } } ∧
            (∀ g', g' ≠ g → t.group g' = s.group g') ∧
            (∀ i, (isNew i → t.stream i = bound i) ∧ (¬isNew i → t.stream i = s.stream i)) ∧
            t = { u with groups := t.groups, streams := t.streams })))

/-- TEMPLATE_CANCEL, its checks in order: STATE without an ARMED bank, IN_USE while an open row carries the armed generation; else the
ARMED bank is IDLE with its list, S is absent, and each stream bound to the group and not in the ACTIVE list is unbound; the reply
carries the generation withdrawn (R23, R39, R54). -/
def Obligations.TemplateCancelWithdrawsTheArmedBank : Prop :=
  ∀ (s : State) (p : TrunkId) (r : Request) (rest : List Request), s.Serves p r rest → r.name = 8 →
    let u := s.afterTaking p rest
    (r.args.length ≠ 1 → Refuses .templateCancel s p r rest .badLength) ∧
    (∀ w, r.args = [w] → 2 ≤ w.toNat → Refuses .templateCancel s p r rest .badArgument) ∧
    (∀ g : GroupId, r.args = [natWord g.val] →
      ((s.group g).templates.armed = none → Refuses .templateCancel s p r rest .state) ∧
      (∀ a, (s.group g).templates.armed = some a →
        ((∃ y ∈ (s.group g).rows, y.generation = a.generation) → Refuses .templateCancel s p r rest .inUse) ∧
        ((∀ y ∈ (s.group g).rows, y.generation ≠ a.generation) →
          ∃ t, Answers .templateCancel s p r t .ok [natWord a.generation.toNat] ∧
            t.group g = { s.group g with templates := { (s.group g).templates with armed := none } } ∧
            (∀ g', g' ≠ g → t.group g' = s.group g') ∧
            (∀ i, t.stream i =
              if (s.stream i).group = some g ∧ (∀ y ∈ (s.group g).templates.activeSlots, y.stream ≠ i) then
                { s.stream i with group := none, state := .unbound, fillRun := 0, holdStore := none }
              else s.stream i) ∧
            t = { u with groups := t.groups, streams := t.streams })))

/-- GROUP_SET, its checks in order: BAD_LENGTH, BAD_ARGUMENT, STATE in RUNNING and DRAINING; else every named parameter takes its value,
the others stay, and the reply carries the four parameters after the write (R103). -/
def Obligations.GroupSetWritesTheNamedParameters : Prop :=
  ∀ (s : State) (p : TrunkId) (r : Request) (rest : List Request), s.Serves p r rest → r.name = 9 →
    (r.args.length < 2 → Refuses .groupSet s p r rest .badLength) ∧
    (∀ w set values, r.args = w :: set :: values →
      (values.length ≠ namedCount 4 set → Refuses .groupSet s p r rest .badLength) ∧
      (values.length = namedCount 4 set →
        (2 ≤ w.toNat ∨ set.toNat = 0 ∨ 16 ≤ set.toNat ∨
            (∃ k v, k < 4 ∧ namedValue set values k = some v ∧ ¬groupParamInRange k v) →
          Refuses .groupSet s p r rest .badArgument) ∧
        (∀ g : GroupId, w = natWord g.val → 1 ≤ set.toNat → set.toNat < 16 →
          (∀ k v, k < 4 → namedValue set values k = some v → groupParamInRange k v) →
          ((s.group g).state = .running ∨ (s.group g).state = .draining → Refuses .groupSet s p r rest .state) ∧
          ((s.group g).state = .stopped ∨ (s.group g).state = .aborting →
            ∃ x : Group, [natWord x.depth, natWord x.holdTime, natWord x.early.code, natWord x.empty.code] =
                writtenWords set values [natWord (s.group g).depth, natWord (s.group g).holdTime, natWord (s.group g).early.code,
                  natWord (s.group g).empty.code] ∧
              x = { s.group g with depth := x.depth, holdTime := x.holdTime, early := x.early, empty := x.empty } ∧
              Answers .groupSet s p r ((s.afterTaking p rest).setGroup g x) .ok
                [natWord x.depth, natWord x.holdTime, natWord x.early.code, natWord x.empty.code]))))

/-- GROUP_START: STATE in the aborting condition, NO_TEMPLATE in STOPPED with an empty ACTIVE list; in STOPPED the group runs with its
window cleared and its streams WAITING; in RUNNING nothing changes; in DRAINING the group runs on with all it has. GROUP_STOP: a
RUNNING group drains, or, empty, completes the drain at once; in every other state nothing changes (R24, R52, R104, R105, R106,
R108). -/
def Obligations.GroupStartAndStop : Prop :=
  ∀ (s : State) (p : TrunkId) (r : Request) (rest : List Request), s.Serves p r rest →
    let u := s.afterTaking p rest
    (r.name = 10 →
      (r.args.length ≠ 1 → Refuses .groupStart s p r rest .badLength) ∧
      (∀ w, r.args = [w] → 2 ≤ w.toNat → Refuses .groupStart s p r rest .badArgument) ∧
      (∀ g : GroupId, r.args = [natWord g.val] →
        ((s.group g).state = .aborting → Refuses .groupStart s p r rest .state) ∧
        ((s.group g).state = .stopped → (s.group g).templates.activeSlots = [] → Refuses .groupStart s p r rest .noTemplate) ∧
        ((s.group g).state = .stopped → (s.group g).templates.activeSlots ≠ [] →
          Answers .groupStart s p r
            ((u.modGroup g fun x => { x with state := .running, cursor := none, lateRun := 0, lateLogged := false }).mapStreams
              fun _ x => if x.group = some g then { x with state := .waiting, fillRun := 0, holdStore := none } else x) .ok [2]) ∧
        ((s.group g).state = .running → Answers .groupStart s p r u .ok [2]) ∧
        ((s.group g).state = .draining →
          Answers .groupStart s p r (u.modGroup g fun x => { x with state := .running }) .ok [2]))) ∧
    (r.name = 11 →
      (r.args.length ≠ 1 → Refuses .groupStop s p r rest .badLength) ∧
      (∀ w, r.args = [w] → 2 ≤ w.toNat → Refuses .groupStop s p r rest .badArgument) ∧
      (∀ g : GroupId, r.args = [natWord g.val] →
        ((s.group g).state ≠ .running → Answers .groupStop s p r u .ok [natWord (s.group g).state.code]) ∧
        ((s.group g).state = .running → ((s.group g).rows ≠ [] ∨ (s.group g).queue ≠ []) →
          Answers .groupStop s p r (u.modGroup g fun x => { x with state := .draining }) .ok [3]) ∧
        ((s.group g).state = .running → (s.group g).rows = [] → (s.group g).queue = [] →
          ∃ t, Answers .groupStop s p r t .ok [0] ∧
            t.group g = { s.group g with
              state := .stopped, cursor := none, lateRun := 0, lateLogged := false
              templates := match (s.group g).templates.armed with
                | none => (s.group g).templates
                | some a =>
                  { activeBank := (s.group g).templates.activeBank.other, activeSlots := (s.group g).templates.otherSlots
                    activeGen := a.generation, otherSlots := (s.group g).templates.activeSlots, armed := none } } ∧
            (∀ g', g' ≠ g → t.group g' = s.group g') ∧
            (∀ i, t.stream i =
              if (s.group g).templates.armed ≠ none ∧ (s.stream i).group = some g ∧
                  (∀ y ∈ (s.group g).templates.otherSlots, y.stream ≠ i) then
                { s.stream i with group := none, state := .unbound, fillRun := 0, holdStore := none }
              else s.stream i) ∧
            t = { u with groups := t.groups, streams := t.streams })))

/-- GROUP_ABORT, in any state: an ARMED bank switches and unbinds, every open row and its cells and every record not in transmission
and its cells are released, the cursor is unset and the late run ended, every stream still bound is WAITING, ABORTS rises, and the
group is STOPPED, in the aborting condition where a record is in transmission; the reply counts the rows, the records discarded and
the record left (R24, R32, R52, R56, R110). -/
def Obligations.GroupAbortReleasesEverything : Prop :=
  ∀ (s : State) (p : TrunkId) (r : Request) (rest : List Request), s.Serves p r rest → r.name = 12 →
    (r.args.length ≠ 1 → Refuses .groupAbort s p r rest .badLength) ∧
    (∀ w, r.args = [w] → 2 ≤ w.toNat → Refuses .groupAbort s p r rest .badArgument) ∧
    (∀ g : GroupId, r.args = [natWord g.val] →
      let u := s.afterTaking p rest
      let x := s.group g
      let kept := x.queue.filter fun y => y.inTransmission
      let gone := x.queue.filter fun y => !y.inTransmission
      ∃ t, Answers .groupAbort s p r t .ok
          [if kept = [] then 0 else 1, natWord x.rows.length, natWord gone.length, natWord kept.length] ∧
        t.group g = { x with
          state := if kept = [] then .stopped else .aborting, cursor := none, rows := [], lateRun := 0, lateLogged := false
          queue := kept, counters := raise x.counters GroupCounter.aborts.index 1
          templates := match x.templates.armed with
            | none => x.templates
            | some a =>
              { activeBank := x.templates.activeBank.other, activeSlots := x.templates.otherSlots, activeGen := a.generation
                otherSlots := x.templates.activeSlots, armed := none } } ∧
        (∀ g', g' ≠ g → t.group g' = s.group g') ∧
        t.freeRows.Perm (s.freeRows ++ x.rows.map Row.rowId) ∧
        t.freeCells.Perm (s.freeCells ++ x.rows.flatMap Row.cellList ++ gone.flatMap fun y => realCells y.entries) ∧
        (∀ i,
          let y := s.stream i
          let leaves := x.templates.armed ≠ none ∧ (∀ z ∈ x.templates.otherSlots, z.stream ≠ i)
          t.stream i = { y with
            group := if y.group = some g ∧ leaves then none else y.group
            state := if y.group = some g then (if leaves then .unbound else .waiting) else y.state
            fillRun := if y.group = some g then 0 else y.fillRun
            holdStore := if y.group = some g then none else y.holdStore
            refs := y.refs - ((gone.flatMap FrameRecord.entries).map Entry.stream).count i }) ∧
        t = { u with groups := t.groups, streams := t.streams, freeRows := t.freeRows, freeCells := t.freeCells })

/-- PORT_SET, its checks in order, gives every named port the value and changes no other port: a port that already holds it is
unchanged, a disabled port is DOWN without a unit in reception, its FIFO flushed and counted if it was UP, an enabled port with signal
enters ALIGNING with run 0; the reply carries the sixteen enables (R4, R7, R146). -/
def Obligations.PortSetChangesTheNamedPorts : Prop :=
  ∀ (s : State) (p : TrunkId) (r : Request) (rest : List Request), s.Serves p r rest → r.name = 16 →
    (r.args.length ≠ 2 → Refuses .portSet s p r rest .badLength) ∧
    (∀ set v, r.args = [set, v] → set.toNat = 0 ∨ 65536 ≤ set.toNat ∨ 2 ≤ v.toNat → Refuses .portSet s p r rest .badArgument) ∧
    (∀ (set : Word) (v : Bool), r.args = [set, flagWord v] → 1 ≤ set.toNat → set.toNat < 65536 →
      ∃ t, Answers .portSet s p r t .ok ((List.finRange 16).map fun q => flagWord (t.node q).enabled) ∧
        t = { s.afterTaking p rest with nodes := t.nodes } ∧
        (∀ q : NodeId, set.getLsbD q.val = false → t.node q = s.node q) ∧
        (∀ q : NodeId, set.getLsbD q.val = true →
          let x := s.node q
          t.node q =
            if x.enabled = v then x
            else if v = true then
              (if x.present then { x with enabled := true, link := .aligning, aligningRun := 0 } else { x with enabled := true })
            else if x.link = .up then
              { x with enabled := false, link := .down, reception := none, fifo := [], episodeOpen := false
                       counters := raise x.counters PortCounter.flushed.index x.fifo.length }
            else { x with enabled := false, link := .down, reception := none }))

/-- TRUNK_SET, its checks in order, gives the port the mark interval and the starve limit it names. A new interval stops a running
mark timer and starts it afresh one interval ahead in UP where it is not 0, the debt staying; a new limit stops a running starve
timer and starts it afresh where a credit wait holds, the limit is not 0 and the logged flag is clear (R128, R147). A value equal
to the one held restarts the timer as any other does: the model's choice (log entry 23). -/
def Obligations.TrunkSetRestartsTheTimers : Prop :=
  ∀ (s : State) (p : TrunkId) (r : Request) (rest : List Request), s.Serves p r rest → r.name = 17 →
    (r.args.length < 2 → Refuses .trunkSet s p r rest .badLength) ∧
    (∀ w set values, r.args = w :: set :: values →
      (values.length ≠ namedCount 2 set → Refuses .trunkSet s p r rest .badLength) ∧
      (values.length = namedCount 2 set →
        let interval := namedValue set values 0
        let limit := namedValue set values 1
        let inRange := (∀ v, interval = some v → v.toNat = 0 ∨ (10 ≤ v.toNat ∧ v.toNat ≤ 65535)) ∧
          (∀ v, limit = some v → v.toNat ≤ 255)
        (2 ≤ w.toNat ∨ set.toNat = 0 ∨ 4 ≤ set.toNat ∨ ¬inRange → Refuses .trunkSet s p r rest .badArgument) ∧
        (∀ q : TrunkId, w = natWord q.val → 1 ≤ set.toNat → set.toNat < 4 → inRange →
          let x := s.trunk q
          let newInterval := (interval.map BitVec.toNat).getD x.markInterval
          let newLimit := (limit.map BitVec.toNat).getD x.starveLimit
          Answers .trunkSet s p r
            ((s.afterTaking p rest).modTrunk q fun y =>
              { y with
                markInterval := newInterval, starveLimit := newLimit
                markTimer :=
                  if interval = none then y.markTimer
                  else if x.link = .up ∧ newInterval ≠ 0 then some (s.time + BitVec.ofNat 32 newInterval)
                  else none
                starveTimer :=
                  if limit = none then y.starveTimer
                  else if s.creditWait q = true ∧ newLimit ≠ 0 ∧ x.starveLogged = false then
                    some (s.time + BitVec.ofNat 32 (newLimit * 1000))
                  else none })
            .ok [natWord newInterval, natWord newLimit])))

/-- READ_COUNTERS, its checks in order: the reply carries scope, index and the owner's counters as they stood at the taking; with the
clear flag they are all 0 after it, and without it nothing changes (R148, R169). -/
def Obligations.ReadCountersReadsAndClears : Prop :=
  ∀ (s : State) (p : TrunkId) (r : Request) (rest : List Request), s.Serves p r rest → r.name = 18 →
    let u := s.afterTaking p rest
    (r.args.length ≠ 3 → Refuses .readCounters s p r rest .badLength) ∧
    (∀ scope index clear, r.args = [scope, index, clear] →
      4 ≤ scope.toNat ∨ (scope.toNat = 0 ∧ 64 ≤ index.toNat) ∨ (scope.toNat = 1 ∧ 16 ≤ index.toNat) ∨
        (scope.toNat = 2 ∧ 2 ≤ index.toNat) ∨ (scope.toNat = 3 ∧ 2 ≤ index.toNat) ∨ 2 ≤ clear.toNat →
      Refuses .readCounters s p r rest .badArgument) ∧
    (∀ clear : Bool,
      (∀ i : StreamId, r.args = [0, natWord i.val, flagWord clear] →
        Answers .readCounters s p r
          (if clear then u.modStream i fun x => { x with counters := Vector.replicate 12 0 } else u) .ok
          (0 :: natWord i.val :: (s.stream i).counters.toList.map natWord)) ∧
      (∀ q : NodeId, r.args = [1, natWord q.val, flagWord clear] →
        Answers .readCounters s p r
          (if clear then u.modNode q fun x => { x with counters := Vector.replicate 7 0 } else u) .ok
          (1 :: natWord q.val :: (s.node q).counters.toList.map natWord)) ∧
      (∀ g : GroupId, r.args = [2, natWord g.val, flagWord clear] →
        Answers .readCounters s p r
          (if clear then u.modGroup g fun x => { x with counters := Vector.replicate 12 0 } else u) .ok
          (2 :: natWord g.val :: (s.group g).counters.toList.map natWord)) ∧
      (∀ q : TrunkId, r.args = [3, natWord q.val, flagWord clear] →
        Answers .readCounters s p r
          (if clear then u.modTrunk q fun x => { x with counters := Vector.replicate 6 0 } else u) .ok
          (3 :: natWord q.val :: (s.trunk q).counters.toList.map natWord)))

/-- FAULT_READ shows the oldest k records (1 to 8) and changes nothing.  FAULT_TAKE removes them, oldest first, and clears the overflow
flag if it removes at least one; the other records, the next sequence number and the overflow counter stay.  Each answers BAD_LENGTH
and BAD_ARGUMENT by its checks (R149, R150, R161). -/
def Obligations.FaultReadAndTake : Prop :=
  ∀ (s : State) (p : TrunkId) (r : Request) (rest : List Request), s.Serves p r rest →
    let u := s.afterTaking p rest
    (r.name = 19 →
      (r.args.length ≠ 1 → Refuses .faultRead s p r rest .badLength) ∧
      (∀ k, r.args = [k] → k.toNat = 0 ∨ 9 ≤ k.toNat → Refuses .faultRead s p r rest .badArgument) ∧
      (∀ k, r.args = [k] → 1 ≤ k.toNat → k.toNat ≤ 8 →
        let shown := s.log.records.take k.toNat
        Answers .faultRead s p r u .ok
          ([natWord s.log.records.length, flagWord s.log.overflowFlag, natWord s.log.overflowCount,
            natWord (min k.toNat s.log.records.length)] ++ shown.flatMap faultWords))) ∧
    (r.name = 20 →
      (r.args.length ≠ 1 → Refuses .faultTake s p r rest .badLength) ∧
      (∀ k, r.args = [k] → k.toNat = 0 ∨ 9 ≤ k.toNat → Refuses .faultTake s p r rest .badArgument) ∧
      (∀ k, r.args = [k] → 1 ≤ k.toNat → k.toNat ≤ 8 →
        let taken := s.log.records.take k.toNat
        let left := s.log.records.drop k.toNat
        let flag := if s.log.records = [] then s.log.overflowFlag else false
        Answers .faultTake s p r { u with log := { s.log with records := left, overflowFlag := flag } } .ok
          (natWord taken.length :: taken.flatMap faultWords ++ [natWord left.length, flagWord flag])))

/-- FAULT_MASK: mode 0 with no mask reads, mode 1 with a mask of thirteen flags replaces the whole mask; the reply carries the mask
after the request. BAD_LENGTH where the argument count does not suit the mode, BAD_ARGUMENT for a mode above 1 or a flag beyond
the thirteen, and for a mask with no flag set, which R175 refuses and R151 does not name (log entry 24), whichever of the two
commands takes the request (R151, R165; log entry 4). -/
def Obligations.FaultMaskReadsAndWrites : Prop :=
  ∀ (s : State) (p : TrunkId) (r : Request) (rest : List Request), s.Serves p r rest → r.name = 21 →
    let u := s.afterTaking p rest
    (r.args = [0] → Answers .faultMaskRead s p r u .ok [s.alertMask.setWidth 32]) ∧
    (∀ more, more ≠ [] → r.args = 0 :: more → Refuses .faultMaskRead s p r rest .badLength) ∧
    (∀ m : Word, r.args = [1, m] →
      (1 ≤ m.toNat → m.toNat < 8192 → Answers .faultMaskWrite s p r { u with alertMask := m.setWidth 13 } .ok [m]) ∧
      (m.toNat = 0 ∨ 8192 ≤ m.toNat → Refuses .faultMaskWrite s p r rest .badArgument)) ∧
    (∀ more, more.length ≠ 1 → r.args = 1 :: more → Refuses .faultMaskWrite s p r rest .badLength) ∧
    (∀ mode more, r.args = mode :: more → 2 ≤ mode.toNat →
      Refuses .faultMaskRead s p r rest .badArgument ∧ Refuses .faultMaskWrite s p r rest .badArgument) ∧
    (r.args = [] → Refuses .faultMaskRead s p r rest .badLength ∧ Refuses .faultMaskWrite s p r rest .badLength)

/-- The engine makes no taking while a soft reset is pending, or while neither port has both a request waiting and a free reply place;
and a command whose request is not the one the rotation would take is not that event.  The part is then unchanged (R139; log entry
4). -/
def Obligations.EngineTakesNothingElse : Prop :=
  ∀ (s : State) (c : Instr), s.hold = .none → c.isRequest = true →
    (s.softPending ≠ none ∨ (∀ q, (s.trunk q).requests = [] ∨ 4 ≤ (s.trunk q).replies.length) → exec c s = .next s) ∧
    (∀ p r rest, s.Serves p r rest → ¬c.Takes r → exec c s = .next s)

/-! ## The fault log, counters, units and laws -/

/-- A logging: it coalesces into the newest record where kind and all four subjects agree and its repeat count is below 255, changing
only that count; else it is added at the newest end with the next sequence number, the time count and repeat count 1 where the log
holds fewer than 32 records; else it overflows, changing only the counter, which stays at 65,535, and the flag (R158, R159, R160,
R161). -/
def Obligations.LoggingCoalescesAddsOrOverflows : Prop :=
  ∀ (log : FaultLog) (now : Time) (l : Logging), log.overflowCount ≤ 65535 →
    (∀ older newest, log.records = older ++ [newest] → newest.what = l → newest.repeats < 255 →
      log.take now l = { log with records := older ++ [{ newest with repeats := newest.repeats + 1 }] }) ∧
    ((∀ older newest, log.records = older ++ [newest] → ¬(newest.what = l ∧ newest.repeats < 255)) →
      (log.records.length < 32 →
        log.take now l = { log with
          records := log.records ++ [{ sequence := log.nextSequence, what := l, time := now, repeats := 1 }]
          nextSequence := log.nextSequence + 1 }) ∧
      (32 ≤ log.records.length →
        log.take now l = { log with
          overflowCount := if log.overflowCount < 65535 then log.overflowCount + 1 else 65535, overflowFlag := true }))

/-- FAULT_N is driven low exactly while the log holds a record whose kind is not masked, or the overflow flag is set and overflow is
not masked (R163, R165, R166). -/
def Obligations.FaultNFollowsTheAlertCondition : Prop :=
  ∀ s : State, s.faultNLow = true ↔
    (∃ r ∈ s.log.records, s.alertMask.getLsbD r.what.kind.code = false) ∨
      (s.log.overflowFlag = true ∧ s.alertMask.getLsbD 12 = false)

/-- A counter's rise: the counter named takes its amount, saturating at 4,294,967,295 and never wrapping, and every other counter of the
set keeps its value (R168). -/
def Obligations.CountersSaturate : Prop :=
  ∀ (n : Nat) (v : Vector Nat n) (i : Fin n) (k : Nat),
    (raise v i k)[i.val] = (if v[i.val] + k ≤ 4294967295 then v[i.val] + k else 4294967295) ∧
    (∀ j : Fin n, j ≠ i → (raise v i k)[j.val] = v[j.val])

/-- A SAMPLE message sent by the layout of R172 with the CRC of R171 is read back whole: for every stream, instant and payload of 1 to 8
words, the unit composed of them is judged a good message with exactly these contents.
CREDIT and REQUEST frames sent by the layouts of R173 and R174 with the CRC of R171 are read back whole: for every mode and count the
form check admits, and for every tag, name and up to 255 argument words. -/
def Obligations.UnitsAreReadBack : Prop :=
  (∀ (stream : StreamId) (instant : Instant) (payload : List Word), 1 ≤ payload.length → payload.length ≤ 8 →
    let word0 : Word := BitVec.ofNat 32 (stream.val * 67108864 + payload.length * 4194304)
    judgeSample ((unitBytes (word0 :: instant :: payload)).map LineSymbol.data) =
      .good { stream := stream, lengthField := payload.length, instant := instant, payload := payload }) ∧
  ((∀ (port : Nat) (mode : CreditMode) (count : Nat), port < 256 → count ≤ 255 → (mode = .add → 1 ≤ count) →
    let header : Word := BitVec.ofNat 32 (8 * 16777216 + port * 65536 + 1)
    let word0 : Word := BitVec.ofNat 32 ((if mode = .add then 0 else 1) * 16777216 + count * 65536)
    judgeTrunk ((unitBytes [header, word0]).map LineSymbol.data) = .credit mode count) ∧
  (∀ (port : Nat) (r : Request), port < 256 → r.args.length ≤ 255 →
    let header : Word := BitVec.ofNat 32 (9 * 16777216 + port * 65536 + (1 + r.args.length))
    let word0 : Word := BitVec.ofNat 32 (r.tag.toNat * 16777216 + r.name.toNat * 65536 + r.args.length * 256)
    judgeTrunk ((unitBytes (header :: word0 :: r.args)).map LineSymbol.data) = .request r))

/-- Right after reset every law holds: of each piece, of the rows, of the bindings, of the windows, of banks and rows, of the cells
and of the queues' bound. -/
def Obligations.LawsHoldAtReset : Prop := State.reset.Lawful

/-- Every step keeps the laws on each piece of the part: FIFOs of at most four messages and empty outside UP, request and reply queues
of at most four, balances of at most 255, debts of at most 8, nothing left on a trunk port outside UP, runs and parameters in
their ranges, an UNBOUND entry exactly where no group is bound, lawful slot lists and generations, a fault log of at most 32
records with consecutive sequence numbers, and 32-bit counters; a held part has every link DOWN (R2, R23, R36, R40, R102, R117,
R121, R123, R126, R137, R153, R157, R168). -/
def Obligations.EveryStepKeepsThePiecesLawful : Prop :=
  ∀ s t : State, s.PiecesLawful → step s = .next t → t.PiecesLawful

/-- Every step keeps the law on rows: "each of the 96 rows is either free or open for exactly one instant of exactly one group, and no
group has two open rows for the same instant" (R59). -/
def Obligations.EveryStepKeepsTheRowLaw : Prop :=
  ∀ s t : State, s.rowsLawful → step s = .next t → t.rowsLawful

/-- Every step keeps the law on bindings: a stream is bound to a group exactly while it appears in that group's ACTIVE or ARMED bank, so
that it appears in the ACTIVE or ARMED banks of at most one group (R22, R23, R42). -/
def Obligations.EveryStepKeepsBindingsWhereNamed : Prop :=
  ∀ s t : State, s.bindingsLawful → step s = .next t → t.bindingsLawful

/-- Every step keeps the laws on the windows: "a group whose cursor is unset has no open rows, and every open row of a group with cursor
E holds an instant n with E ≤ n < E + D" (R58), rows in instant order (R56), the cursor unset in STOPPED, nothing queued in plain
STOPPED, exactly the record in transmission in the aborting condition, something left in DRAINING, an ARMED bank only with S ahead of
the cursor, only the head of a queue in transmission (R51, R96, R101, R104, R108, R111); and a message that waits for a forced advance
lies ahead of the cursor and beyond every open row (R70, R71). -/
def Obligations.EveryStepKeepsTheWindowLaws : Prop :=
  ∀ s t : State, s.WindowsLawful → step s = .next t → t.WindowsLawful

/-- Every step keeps the laws on banks, open rows and cells: each open row carries the generation that governs its instant and holds
cells only in due slots (R60, R66), and "each of the 1,024 cells is at every moment in exactly one place" (R61). -/
def Obligations.EveryStepKeepsTheCellLaw : Prop :=
  ∀ s t : State, s.WindowsLawful → s.BanksLawful → s.cellsLawful → step s = .next t → t.BanksLawful ∧ t.cellsLawful

/-- No step brings a frame queue above 8 records: every placement is preceded by the finding of a free place, and a forced advance
places no more records than the free places it counted (R71, R82, R97). -/
def Obligations.EveryStepKeepsTheQueueBound : Prop :=
  ∀ s t : State, s.WindowsLawful → s.BanksLawful → s.queuesBounded → step s = .next t → t.queuesBounded
end

