-- ==== Sys2Proof/Laws/State.lean ====
section
/-! SUPPORT. The small lemmas of the state's updates: one for each field and each update that leaves it alone, true by `rfl`,
and what reading one port, stream, group or trunk gives after one was replaced. -/

namespace Sys2Proof.Machine

variable (s : State)

/-! ### `setNode` -/

@[simp] theorem State.setNode_pending (p : NodeId) (x : NodePort) : (s.setNode p x).pending = s.pending := rfl
@[simp] theorem State.setNode_hold (p : NodeId) (x : NodePort) : (s.setNode p x).hold = s.hold := rfl
@[simp] theorem State.setNode_resetNLow (p : NodeId) (x : NodePort) : (s.setNode p x).resetNLow = s.resetNLow := rfl
@[simp] theorem State.setNode_time (p : NodeId) (x : NodePort) : (s.setNode p x).time = s.time := rfl
@[simp] theorem State.setNode_lastNode (p : NodeId) (x : NodePort) : (s.setNode p x).lastNode = s.lastNode := rfl
@[simp] theorem State.setNode_intake (p : NodeId) (x : NodePort) : (s.setNode p x).intake = s.intake := rfl
@[simp] theorem State.setNode_streams (p : NodeId) (x : NodePort) : (s.setNode p x).streams = s.streams := rfl
@[simp] theorem State.setNode_groups (p : NodeId) (x : NodePort) : (s.setNode p x).groups = s.groups := rfl
@[simp] theorem State.setNode_freeRows (p : NodeId) (x : NodePort) : (s.setNode p x).freeRows = s.freeRows := rfl
@[simp] theorem State.setNode_cells (p : NodeId) (x : NodePort) : (s.setNode p x).cells = s.cells := rfl
@[simp] theorem State.setNode_freeCells (p : NodeId) (x : NodePort) : (s.setNode p x).freeCells = s.freeCells := rfl
@[simp] theorem State.setNode_trunks (p : NodeId) (x : NodePort) : (s.setNode p x).trunks = s.trunks := rfl
@[simp] theorem State.setNode_lastTrunk (p : NodeId) (x : NodePort) : (s.setNode p x).lastTrunk = s.lastTrunk := rfl
@[simp] theorem State.setNode_softPending (p : NodeId) (x : NodePort) : (s.setNode p x).softPending = s.softPending := rfl
@[simp] theorem State.setNode_log (p : NodeId) (x : NodePort) : (s.setNode p x).log = s.log := rfl
@[simp] theorem State.setNode_alertMask (p : NodeId) (x : NodePort) : (s.setNode p x).alertMask = s.alertMask := rfl
@[simp] theorem State.setNode_cause (p : NodeId) (x : NodePort) : (s.setNode p x).cause = s.cause := rfl
@[simp] theorem State.setNode_softCount (p : NodeId) (x : NodePort) : (s.setNode p x).softCount = s.softCount := rfl
@[simp] theorem State.setNode_draws (p : NodeId) (x : NodePort) : (s.setNode p x).draws = s.draws := rfl
@[simp] theorem State.setNode_stream (p : NodeId) (x : NodePort) (i : StreamId) : (s.setNode p x).stream i = s.stream i := rfl
@[simp] theorem State.setNode_group (p : NodeId) (x : NodePort) (g : GroupId) : (s.setNode p x).group g = s.group g := rfl
@[simp] theorem State.setNode_trunk (p : NodeId) (x : NodePort) (q : TrunkId) : (s.setNode p x).trunk q = s.trunk q := rfl
@[simp] theorem State.setNode_cell (p : NodeId) (x : NodePort) (c : CellId) : (s.setNode p x).cell c = s.cell c := rfl

/-! ### `modNode` -/

@[simp] theorem State.modNode_pending (p : NodeId) (f : NodePort → NodePort) : (s.modNode p f).pending = s.pending := rfl
@[simp] theorem State.modNode_hold (p : NodeId) (f : NodePort → NodePort) : (s.modNode p f).hold = s.hold := rfl
@[simp] theorem State.modNode_resetNLow (p : NodeId) (f : NodePort → NodePort) : (s.modNode p f).resetNLow = s.resetNLow := rfl
@[simp] theorem State.modNode_time (p : NodeId) (f : NodePort → NodePort) : (s.modNode p f).time = s.time := rfl
@[simp] theorem State.modNode_lastNode (p : NodeId) (f : NodePort → NodePort) : (s.modNode p f).lastNode = s.lastNode := rfl
@[simp] theorem State.modNode_intake (p : NodeId) (f : NodePort → NodePort) : (s.modNode p f).intake = s.intake := rfl
@[simp] theorem State.modNode_streams (p : NodeId) (f : NodePort → NodePort) : (s.modNode p f).streams = s.streams := rfl
@[simp] theorem State.modNode_groups (p : NodeId) (f : NodePort → NodePort) : (s.modNode p f).groups = s.groups := rfl
@[simp] theorem State.modNode_freeRows (p : NodeId) (f : NodePort → NodePort) : (s.modNode p f).freeRows = s.freeRows := rfl
@[simp] theorem State.modNode_cells (p : NodeId) (f : NodePort → NodePort) : (s.modNode p f).cells = s.cells := rfl
@[simp] theorem State.modNode_freeCells (p : NodeId) (f : NodePort → NodePort) : (s.modNode p f).freeCells = s.freeCells := rfl
@[simp] theorem State.modNode_trunks (p : NodeId) (f : NodePort → NodePort) : (s.modNode p f).trunks = s.trunks := rfl
@[simp] theorem State.modNode_lastTrunk (p : NodeId) (f : NodePort → NodePort) : (s.modNode p f).lastTrunk = s.lastTrunk := rfl
@[simp] theorem State.modNode_softPending (p : NodeId) (f : NodePort → NodePort) : (s.modNode p f).softPending = s.softPending := rfl
@[simp] theorem State.modNode_log (p : NodeId) (f : NodePort → NodePort) : (s.modNode p f).log = s.log := rfl
@[simp] theorem State.modNode_alertMask (p : NodeId) (f : NodePort → NodePort) : (s.modNode p f).alertMask = s.alertMask := rfl
@[simp] theorem State.modNode_cause (p : NodeId) (f : NodePort → NodePort) : (s.modNode p f).cause = s.cause := rfl
@[simp] theorem State.modNode_softCount (p : NodeId) (f : NodePort → NodePort) : (s.modNode p f).softCount = s.softCount := rfl
@[simp] theorem State.modNode_draws (p : NodeId) (f : NodePort → NodePort) : (s.modNode p f).draws = s.draws := rfl
@[simp] theorem State.modNode_stream (p : NodeId) (f : NodePort → NodePort) (i : StreamId) : (s.modNode p f).stream i = s.stream i := rfl
@[simp] theorem State.modNode_group (p : NodeId) (f : NodePort → NodePort) (g : GroupId) : (s.modNode p f).group g = s.group g := rfl
@[simp] theorem State.modNode_trunk (p : NodeId) (f : NodePort → NodePort) (q : TrunkId) : (s.modNode p f).trunk q = s.trunk q := rfl
@[simp] theorem State.modNode_cell (p : NodeId) (f : NodePort → NodePort) (c : CellId) : (s.modNode p f).cell c = s.cell c := rfl

/-! ### `setStream` -/

@[simp] theorem State.setStream_pending (i : StreamId) (x : Stream) : (s.setStream i x).pending = s.pending := rfl
@[simp] theorem State.setStream_hold (i : StreamId) (x : Stream) : (s.setStream i x).hold = s.hold := rfl
@[simp] theorem State.setStream_resetNLow (i : StreamId) (x : Stream) : (s.setStream i x).resetNLow = s.resetNLow := rfl
@[simp] theorem State.setStream_time (i : StreamId) (x : Stream) : (s.setStream i x).time = s.time := rfl
@[simp] theorem State.setStream_nodes (i : StreamId) (x : Stream) : (s.setStream i x).nodes = s.nodes := rfl
@[simp] theorem State.setStream_lastNode (i : StreamId) (x : Stream) : (s.setStream i x).lastNode = s.lastNode := rfl
@[simp] theorem State.setStream_intake (i : StreamId) (x : Stream) : (s.setStream i x).intake = s.intake := rfl
@[simp] theorem State.setStream_groups (i : StreamId) (x : Stream) : (s.setStream i x).groups = s.groups := rfl
@[simp] theorem State.setStream_freeRows (i : StreamId) (x : Stream) : (s.setStream i x).freeRows = s.freeRows := rfl
@[simp] theorem State.setStream_cells (i : StreamId) (x : Stream) : (s.setStream i x).cells = s.cells := rfl
@[simp] theorem State.setStream_freeCells (i : StreamId) (x : Stream) : (s.setStream i x).freeCells = s.freeCells := rfl
@[simp] theorem State.setStream_trunks (i : StreamId) (x : Stream) : (s.setStream i x).trunks = s.trunks := rfl
@[simp] theorem State.setStream_lastTrunk (i : StreamId) (x : Stream) : (s.setStream i x).lastTrunk = s.lastTrunk := rfl
@[simp] theorem State.setStream_softPending (i : StreamId) (x : Stream) : (s.setStream i x).softPending = s.softPending := rfl
@[simp] theorem State.setStream_log (i : StreamId) (x : Stream) : (s.setStream i x).log = s.log := rfl
@[simp] theorem State.setStream_alertMask (i : StreamId) (x : Stream) : (s.setStream i x).alertMask = s.alertMask := rfl
@[simp] theorem State.setStream_cause (i : StreamId) (x : Stream) : (s.setStream i x).cause = s.cause := rfl
@[simp] theorem State.setStream_softCount (i : StreamId) (x : Stream) : (s.setStream i x).softCount = s.softCount := rfl
@[simp] theorem State.setStream_draws (i : StreamId) (x : Stream) : (s.setStream i x).draws = s.draws := rfl
@[simp] theorem State.setStream_node (i : StreamId) (x : Stream) (p : NodeId) : (s.setStream i x).node p = s.node p := rfl
@[simp] theorem State.setStream_group (i : StreamId) (x : Stream) (g : GroupId) : (s.setStream i x).group g = s.group g := rfl
@[simp] theorem State.setStream_trunk (i : StreamId) (x : Stream) (q : TrunkId) : (s.setStream i x).trunk q = s.trunk q := rfl
@[simp] theorem State.setStream_cell (i : StreamId) (x : Stream) (c : CellId) : (s.setStream i x).cell c = s.cell c := rfl

/-! ### `modStream` -/

@[simp] theorem State.modStream_pending (i : StreamId) (f : Stream → Stream) : (s.modStream i f).pending = s.pending := rfl
@[simp] theorem State.modStream_hold (i : StreamId) (f : Stream → Stream) : (s.modStream i f).hold = s.hold := rfl
@[simp] theorem State.modStream_resetNLow (i : StreamId) (f : Stream → Stream) : (s.modStream i f).resetNLow = s.resetNLow := rfl
@[simp] theorem State.modStream_time (i : StreamId) (f : Stream → Stream) : (s.modStream i f).time = s.time := rfl
@[simp] theorem State.modStream_nodes (i : StreamId) (f : Stream → Stream) : (s.modStream i f).nodes = s.nodes := rfl
@[simp] theorem State.modStream_lastNode (i : StreamId) (f : Stream → Stream) : (s.modStream i f).lastNode = s.lastNode := rfl
@[simp] theorem State.modStream_intake (i : StreamId) (f : Stream → Stream) : (s.modStream i f).intake = s.intake := rfl
@[simp] theorem State.modStream_groups (i : StreamId) (f : Stream → Stream) : (s.modStream i f).groups = s.groups := rfl
@[simp] theorem State.modStream_freeRows (i : StreamId) (f : Stream → Stream) : (s.modStream i f).freeRows = s.freeRows := rfl
@[simp] theorem State.modStream_cells (i : StreamId) (f : Stream → Stream) : (s.modStream i f).cells = s.cells := rfl
@[simp] theorem State.modStream_freeCells (i : StreamId) (f : Stream → Stream) : (s.modStream i f).freeCells = s.freeCells := rfl
@[simp] theorem State.modStream_trunks (i : StreamId) (f : Stream → Stream) : (s.modStream i f).trunks = s.trunks := rfl
@[simp] theorem State.modStream_lastTrunk (i : StreamId) (f : Stream → Stream) : (s.modStream i f).lastTrunk = s.lastTrunk := rfl
@[simp] theorem State.modStream_softPending (i : StreamId) (f : Stream → Stream) : (s.modStream i f).softPending = s.softPending := rfl
@[simp] theorem State.modStream_log (i : StreamId) (f : Stream → Stream) : (s.modStream i f).log = s.log := rfl
@[simp] theorem State.modStream_alertMask (i : StreamId) (f : Stream → Stream) : (s.modStream i f).alertMask = s.alertMask := rfl
@[simp] theorem State.modStream_cause (i : StreamId) (f : Stream → Stream) : (s.modStream i f).cause = s.cause := rfl
@[simp] theorem State.modStream_softCount (i : StreamId) (f : Stream → Stream) : (s.modStream i f).softCount = s.softCount := rfl
@[simp] theorem State.modStream_draws (i : StreamId) (f : Stream → Stream) : (s.modStream i f).draws = s.draws := rfl
@[simp] theorem State.modStream_node (i : StreamId) (f : Stream → Stream) (p : NodeId) : (s.modStream i f).node p = s.node p := rfl
@[simp] theorem State.modStream_group (i : StreamId) (f : Stream → Stream) (g : GroupId) : (s.modStream i f).group g = s.group g := rfl
@[simp] theorem State.modStream_trunk (i : StreamId) (f : Stream → Stream) (q : TrunkId) : (s.modStream i f).trunk q = s.trunk q := rfl
@[simp] theorem State.modStream_cell (i : StreamId) (f : Stream → Stream) (c : CellId) : (s.modStream i f).cell c = s.cell c := rfl

/-! ### `mapStreams` -/

@[simp] theorem State.mapStreams_pending (f : StreamId → Stream → Stream) : (s.mapStreams f).pending = s.pending := rfl
@[simp] theorem State.mapStreams_hold (f : StreamId → Stream → Stream) : (s.mapStreams f).hold = s.hold := rfl
@[simp] theorem State.mapStreams_resetNLow (f : StreamId → Stream → Stream) : (s.mapStreams f).resetNLow = s.resetNLow := rfl
@[simp] theorem State.mapStreams_time (f : StreamId → Stream → Stream) : (s.mapStreams f).time = s.time := rfl
@[simp] theorem State.mapStreams_nodes (f : StreamId → Stream → Stream) : (s.mapStreams f).nodes = s.nodes := rfl
@[simp] theorem State.mapStreams_lastNode (f : StreamId → Stream → Stream) : (s.mapStreams f).lastNode = s.lastNode := rfl
@[simp] theorem State.mapStreams_intake (f : StreamId → Stream → Stream) : (s.mapStreams f).intake = s.intake := rfl
@[simp] theorem State.mapStreams_groups (f : StreamId → Stream → Stream) : (s.mapStreams f).groups = s.groups := rfl
@[simp] theorem State.mapStreams_freeRows (f : StreamId → Stream → Stream) : (s.mapStreams f).freeRows = s.freeRows := rfl
@[simp] theorem State.mapStreams_cells (f : StreamId → Stream → Stream) : (s.mapStreams f).cells = s.cells := rfl
@[simp] theorem State.mapStreams_freeCells (f : StreamId → Stream → Stream) : (s.mapStreams f).freeCells = s.freeCells := rfl
@[simp] theorem State.mapStreams_trunks (f : StreamId → Stream → Stream) : (s.mapStreams f).trunks = s.trunks := rfl
@[simp] theorem State.mapStreams_lastTrunk (f : StreamId → Stream → Stream) : (s.mapStreams f).lastTrunk = s.lastTrunk := rfl
@[simp] theorem State.mapStreams_softPending (f : StreamId → Stream → Stream) : (s.mapStreams f).softPending = s.softPending := rfl
@[simp] theorem State.mapStreams_log (f : StreamId → Stream → Stream) : (s.mapStreams f).log = s.log := rfl
@[simp] theorem State.mapStreams_alertMask (f : StreamId → Stream → Stream) : (s.mapStreams f).alertMask = s.alertMask := rfl
@[simp] theorem State.mapStreams_cause (f : StreamId → Stream → Stream) : (s.mapStreams f).cause = s.cause := rfl
@[simp] theorem State.mapStreams_softCount (f : StreamId → Stream → Stream) : (s.mapStreams f).softCount = s.softCount := rfl
@[simp] theorem State.mapStreams_draws (f : StreamId → Stream → Stream) : (s.mapStreams f).draws = s.draws := rfl
@[simp] theorem State.mapStreams_node (f : StreamId → Stream → Stream) (p : NodeId) : (s.mapStreams f).node p = s.node p := rfl
@[simp] theorem State.mapStreams_group (f : StreamId → Stream → Stream) (g : GroupId) : (s.mapStreams f).group g = s.group g := rfl
@[simp] theorem State.mapStreams_trunk (f : StreamId → Stream → Stream) (q : TrunkId) : (s.mapStreams f).trunk q = s.trunk q := rfl
@[simp] theorem State.mapStreams_cell (f : StreamId → Stream → Stream) (c : CellId) : (s.mapStreams f).cell c = s.cell c := rfl

/-! ### `setGroup` -/

@[simp] theorem State.setGroup_pending (g : GroupId) (x : Group) : (s.setGroup g x).pending = s.pending := rfl
@[simp] theorem State.setGroup_hold (g : GroupId) (x : Group) : (s.setGroup g x).hold = s.hold := rfl
@[simp] theorem State.setGroup_resetNLow (g : GroupId) (x : Group) : (s.setGroup g x).resetNLow = s.resetNLow := rfl
@[simp] theorem State.setGroup_time (g : GroupId) (x : Group) : (s.setGroup g x).time = s.time := rfl
@[simp] theorem State.setGroup_nodes (g : GroupId) (x : Group) : (s.setGroup g x).nodes = s.nodes := rfl
@[simp] theorem State.setGroup_lastNode (g : GroupId) (x : Group) : (s.setGroup g x).lastNode = s.lastNode := rfl
@[simp] theorem State.setGroup_intake (g : GroupId) (x : Group) : (s.setGroup g x).intake = s.intake := rfl
@[simp] theorem State.setGroup_streams (g : GroupId) (x : Group) : (s.setGroup g x).streams = s.streams := rfl
@[simp] theorem State.setGroup_freeRows (g : GroupId) (x : Group) : (s.setGroup g x).freeRows = s.freeRows := rfl
@[simp] theorem State.setGroup_cells (g : GroupId) (x : Group) : (s.setGroup g x).cells = s.cells := rfl
@[simp] theorem State.setGroup_freeCells (g : GroupId) (x : Group) : (s.setGroup g x).freeCells = s.freeCells := rfl
@[simp] theorem State.setGroup_trunks (g : GroupId) (x : Group) : (s.setGroup g x).trunks = s.trunks := rfl
@[simp] theorem State.setGroup_lastTrunk (g : GroupId) (x : Group) : (s.setGroup g x).lastTrunk = s.lastTrunk := rfl
@[simp] theorem State.setGroup_softPending (g : GroupId) (x : Group) : (s.setGroup g x).softPending = s.softPending := rfl
@[simp] theorem State.setGroup_log (g : GroupId) (x : Group) : (s.setGroup g x).log = s.log := rfl
@[simp] theorem State.setGroup_alertMask (g : GroupId) (x : Group) : (s.setGroup g x).alertMask = s.alertMask := rfl
@[simp] theorem State.setGroup_cause (g : GroupId) (x : Group) : (s.setGroup g x).cause = s.cause := rfl
@[simp] theorem State.setGroup_softCount (g : GroupId) (x : Group) : (s.setGroup g x).softCount = s.softCount := rfl
@[simp] theorem State.setGroup_draws (g : GroupId) (x : Group) : (s.setGroup g x).draws = s.draws := rfl
@[simp] theorem State.setGroup_node (g : GroupId) (x : Group) (p : NodeId) : (s.setGroup g x).node p = s.node p := rfl
@[simp] theorem State.setGroup_stream (g : GroupId) (x : Group) (i : StreamId) : (s.setGroup g x).stream i = s.stream i := rfl
@[simp] theorem State.setGroup_trunk (g : GroupId) (x : Group) (q : TrunkId) : (s.setGroup g x).trunk q = s.trunk q := rfl
@[simp] theorem State.setGroup_cell (g : GroupId) (x : Group) (c : CellId) : (s.setGroup g x).cell c = s.cell c := rfl

/-! ### `modGroup` -/

@[simp] theorem State.modGroup_pending (g : GroupId) (f : Group → Group) : (s.modGroup g f).pending = s.pending := rfl
@[simp] theorem State.modGroup_hold (g : GroupId) (f : Group → Group) : (s.modGroup g f).hold = s.hold := rfl
@[simp] theorem State.modGroup_resetNLow (g : GroupId) (f : Group → Group) : (s.modGroup g f).resetNLow = s.resetNLow := rfl
@[simp] theorem State.modGroup_time (g : GroupId) (f : Group → Group) : (s.modGroup g f).time = s.time := rfl
@[simp] theorem State.modGroup_nodes (g : GroupId) (f : Group → Group) : (s.modGroup g f).nodes = s.nodes := rfl
@[simp] theorem State.modGroup_lastNode (g : GroupId) (f : Group → Group) : (s.modGroup g f).lastNode = s.lastNode := rfl
@[simp] theorem State.modGroup_intake (g : GroupId) (f : Group → Group) : (s.modGroup g f).intake = s.intake := rfl
@[simp] theorem State.modGroup_streams (g : GroupId) (f : Group → Group) : (s.modGroup g f).streams = s.streams := rfl
@[simp] theorem State.modGroup_freeRows (g : GroupId) (f : Group → Group) : (s.modGroup g f).freeRows = s.freeRows := rfl
@[simp] theorem State.modGroup_cells (g : GroupId) (f : Group → Group) : (s.modGroup g f).cells = s.cells := rfl
@[simp] theorem State.modGroup_freeCells (g : GroupId) (f : Group → Group) : (s.modGroup g f).freeCells = s.freeCells := rfl
@[simp] theorem State.modGroup_trunks (g : GroupId) (f : Group → Group) : (s.modGroup g f).trunks = s.trunks := rfl
@[simp] theorem State.modGroup_lastTrunk (g : GroupId) (f : Group → Group) : (s.modGroup g f).lastTrunk = s.lastTrunk := rfl
@[simp] theorem State.modGroup_softPending (g : GroupId) (f : Group → Group) : (s.modGroup g f).softPending = s.softPending := rfl
@[simp] theorem State.modGroup_log (g : GroupId) (f : Group → Group) : (s.modGroup g f).log = s.log := rfl
@[simp] theorem State.modGroup_alertMask (g : GroupId) (f : Group → Group) : (s.modGroup g f).alertMask = s.alertMask := rfl
@[simp] theorem State.modGroup_cause (g : GroupId) (f : Group → Group) : (s.modGroup g f).cause = s.cause := rfl
@[simp] theorem State.modGroup_softCount (g : GroupId) (f : Group → Group) : (s.modGroup g f).softCount = s.softCount := rfl
@[simp] theorem State.modGroup_draws (g : GroupId) (f : Group → Group) : (s.modGroup g f).draws = s.draws := rfl
@[simp] theorem State.modGroup_node (g : GroupId) (f : Group → Group) (p : NodeId) : (s.modGroup g f).node p = s.node p := rfl
@[simp] theorem State.modGroup_stream (g : GroupId) (f : Group → Group) (i : StreamId) : (s.modGroup g f).stream i = s.stream i := rfl
@[simp] theorem State.modGroup_trunk (g : GroupId) (f : Group → Group) (q : TrunkId) : (s.modGroup g f).trunk q = s.trunk q := rfl
@[simp] theorem State.modGroup_cell (g : GroupId) (f : Group → Group) (c : CellId) : (s.modGroup g f).cell c = s.cell c := rfl

/-! ### `setTrunk` -/

@[simp] theorem State.setTrunk_pending (p : TrunkId) (x : Trunk) : (s.setTrunk p x).pending = s.pending := rfl
@[simp] theorem State.setTrunk_hold (p : TrunkId) (x : Trunk) : (s.setTrunk p x).hold = s.hold := rfl
@[simp] theorem State.setTrunk_resetNLow (p : TrunkId) (x : Trunk) : (s.setTrunk p x).resetNLow = s.resetNLow := rfl
@[simp] theorem State.setTrunk_time (p : TrunkId) (x : Trunk) : (s.setTrunk p x).time = s.time := rfl
@[simp] theorem State.setTrunk_nodes (p : TrunkId) (x : Trunk) : (s.setTrunk p x).nodes = s.nodes := rfl
@[simp] theorem State.setTrunk_lastNode (p : TrunkId) (x : Trunk) : (s.setTrunk p x).lastNode = s.lastNode := rfl
@[simp] theorem State.setTrunk_intake (p : TrunkId) (x : Trunk) : (s.setTrunk p x).intake = s.intake := rfl
@[simp] theorem State.setTrunk_streams (p : TrunkId) (x : Trunk) : (s.setTrunk p x).streams = s.streams := rfl
@[simp] theorem State.setTrunk_groups (p : TrunkId) (x : Trunk) : (s.setTrunk p x).groups = s.groups := rfl
@[simp] theorem State.setTrunk_freeRows (p : TrunkId) (x : Trunk) : (s.setTrunk p x).freeRows = s.freeRows := rfl
@[simp] theorem State.setTrunk_cells (p : TrunkId) (x : Trunk) : (s.setTrunk p x).cells = s.cells := rfl
@[simp] theorem State.setTrunk_freeCells (p : TrunkId) (x : Trunk) : (s.setTrunk p x).freeCells = s.freeCells := rfl
@[simp] theorem State.setTrunk_lastTrunk (p : TrunkId) (x : Trunk) : (s.setTrunk p x).lastTrunk = s.lastTrunk := rfl
@[simp] theorem State.setTrunk_softPending (p : TrunkId) (x : Trunk) : (s.setTrunk p x).softPending = s.softPending := rfl
@[simp] theorem State.setTrunk_log (p : TrunkId) (x : Trunk) : (s.setTrunk p x).log = s.log := rfl
@[simp] theorem State.setTrunk_alertMask (p : TrunkId) (x : Trunk) : (s.setTrunk p x).alertMask = s.alertMask := rfl
@[simp] theorem State.setTrunk_cause (p : TrunkId) (x : Trunk) : (s.setTrunk p x).cause = s.cause := rfl
@[simp] theorem State.setTrunk_softCount (p : TrunkId) (x : Trunk) : (s.setTrunk p x).softCount = s.softCount := rfl
@[simp] theorem State.setTrunk_draws (p : TrunkId) (x : Trunk) : (s.setTrunk p x).draws = s.draws := rfl
@[simp] theorem State.setTrunk_node (p : TrunkId) (x : Trunk) (p' : NodeId) : (s.setTrunk p x).node p' = s.node p' := rfl
@[simp] theorem State.setTrunk_stream (p : TrunkId) (x : Trunk) (i : StreamId) : (s.setTrunk p x).stream i = s.stream i := rfl
@[simp] theorem State.setTrunk_group (p : TrunkId) (x : Trunk) (g : GroupId) : (s.setTrunk p x).group g = s.group g := rfl
@[simp] theorem State.setTrunk_cell (p : TrunkId) (x : Trunk) (c : CellId) : (s.setTrunk p x).cell c = s.cell c := rfl

/-! ### `modTrunk` -/

@[simp] theorem State.modTrunk_pending (p : TrunkId) (f : Trunk → Trunk) : (s.modTrunk p f).pending = s.pending := rfl
@[simp] theorem State.modTrunk_hold (p : TrunkId) (f : Trunk → Trunk) : (s.modTrunk p f).hold = s.hold := rfl
@[simp] theorem State.modTrunk_resetNLow (p : TrunkId) (f : Trunk → Trunk) : (s.modTrunk p f).resetNLow = s.resetNLow := rfl
@[simp] theorem State.modTrunk_time (p : TrunkId) (f : Trunk → Trunk) : (s.modTrunk p f).time = s.time := rfl
@[simp] theorem State.modTrunk_nodes (p : TrunkId) (f : Trunk → Trunk) : (s.modTrunk p f).nodes = s.nodes := rfl
@[simp] theorem State.modTrunk_lastNode (p : TrunkId) (f : Trunk → Trunk) : (s.modTrunk p f).lastNode = s.lastNode := rfl
@[simp] theorem State.modTrunk_intake (p : TrunkId) (f : Trunk → Trunk) : (s.modTrunk p f).intake = s.intake := rfl
@[simp] theorem State.modTrunk_streams (p : TrunkId) (f : Trunk → Trunk) : (s.modTrunk p f).streams = s.streams := rfl
@[simp] theorem State.modTrunk_groups (p : TrunkId) (f : Trunk → Trunk) : (s.modTrunk p f).groups = s.groups := rfl
@[simp] theorem State.modTrunk_freeRows (p : TrunkId) (f : Trunk → Trunk) : (s.modTrunk p f).freeRows = s.freeRows := rfl
@[simp] theorem State.modTrunk_cells (p : TrunkId) (f : Trunk → Trunk) : (s.modTrunk p f).cells = s.cells := rfl
@[simp] theorem State.modTrunk_freeCells (p : TrunkId) (f : Trunk → Trunk) : (s.modTrunk p f).freeCells = s.freeCells := rfl
@[simp] theorem State.modTrunk_lastTrunk (p : TrunkId) (f : Trunk → Trunk) : (s.modTrunk p f).lastTrunk = s.lastTrunk := rfl
@[simp] theorem State.modTrunk_softPending (p : TrunkId) (f : Trunk → Trunk) : (s.modTrunk p f).softPending = s.softPending := rfl
@[simp] theorem State.modTrunk_log (p : TrunkId) (f : Trunk → Trunk) : (s.modTrunk p f).log = s.log := rfl
@[simp] theorem State.modTrunk_alertMask (p : TrunkId) (f : Trunk → Trunk) : (s.modTrunk p f).alertMask = s.alertMask := rfl
@[simp] theorem State.modTrunk_cause (p : TrunkId) (f : Trunk → Trunk) : (s.modTrunk p f).cause = s.cause := rfl
@[simp] theorem State.modTrunk_softCount (p : TrunkId) (f : Trunk → Trunk) : (s.modTrunk p f).softCount = s.softCount := rfl
@[simp] theorem State.modTrunk_draws (p : TrunkId) (f : Trunk → Trunk) : (s.modTrunk p f).draws = s.draws := rfl
@[simp] theorem State.modTrunk_node (p : TrunkId) (f : Trunk → Trunk) (p' : NodeId) : (s.modTrunk p f).node p' = s.node p' := rfl
@[simp] theorem State.modTrunk_stream (p : TrunkId) (f : Trunk → Trunk) (i : StreamId) : (s.modTrunk p f).stream i = s.stream i := rfl
@[simp] theorem State.modTrunk_group (p : TrunkId) (f : Trunk → Trunk) (g : GroupId) : (s.modTrunk p f).group g = s.group g := rfl
@[simp] theorem State.modTrunk_cell (p : TrunkId) (f : Trunk → Trunk) (c : CellId) : (s.modTrunk p f).cell c = s.cell c := rfl

/-! ### `logFault` -/

@[simp] theorem State.logFault_pending (l : Logging) : (s.logFault l).pending = s.pending := rfl
@[simp] theorem State.logFault_hold (l : Logging) : (s.logFault l).hold = s.hold := rfl
@[simp] theorem State.logFault_resetNLow (l : Logging) : (s.logFault l).resetNLow = s.resetNLow := rfl
@[simp] theorem State.logFault_time (l : Logging) : (s.logFault l).time = s.time := rfl
@[simp] theorem State.logFault_nodes (l : Logging) : (s.logFault l).nodes = s.nodes := rfl
@[simp] theorem State.logFault_lastNode (l : Logging) : (s.logFault l).lastNode = s.lastNode := rfl
@[simp] theorem State.logFault_intake (l : Logging) : (s.logFault l).intake = s.intake := rfl
@[simp] theorem State.logFault_streams (l : Logging) : (s.logFault l).streams = s.streams := rfl
@[simp] theorem State.logFault_groups (l : Logging) : (s.logFault l).groups = s.groups := rfl
@[simp] theorem State.logFault_freeRows (l : Logging) : (s.logFault l).freeRows = s.freeRows := rfl
@[simp] theorem State.logFault_cells (l : Logging) : (s.logFault l).cells = s.cells := rfl
@[simp] theorem State.logFault_freeCells (l : Logging) : (s.logFault l).freeCells = s.freeCells := rfl
@[simp] theorem State.logFault_trunks (l : Logging) : (s.logFault l).trunks = s.trunks := rfl
@[simp] theorem State.logFault_lastTrunk (l : Logging) : (s.logFault l).lastTrunk = s.lastTrunk := rfl
@[simp] theorem State.logFault_softPending (l : Logging) : (s.logFault l).softPending = s.softPending := rfl
@[simp] theorem State.logFault_alertMask (l : Logging) : (s.logFault l).alertMask = s.alertMask := rfl
@[simp] theorem State.logFault_cause (l : Logging) : (s.logFault l).cause = s.cause := rfl
@[simp] theorem State.logFault_softCount (l : Logging) : (s.logFault l).softCount = s.softCount := rfl
@[simp] theorem State.logFault_draws (l : Logging) : (s.logFault l).draws = s.draws := rfl
@[simp] theorem State.logFault_node (l : Logging) (p : NodeId) : (s.logFault l).node p = s.node p := rfl
@[simp] theorem State.logFault_stream (l : Logging) (i : StreamId) : (s.logFault l).stream i = s.stream i := rfl
@[simp] theorem State.logFault_group (l : Logging) (g : GroupId) : (s.logFault l).group g = s.group g := rfl
@[simp] theorem State.logFault_trunk (l : Logging) (q : TrunkId) : (s.logFault l).trunk q = s.trunk q := rfl
@[simp] theorem State.logFault_cell (l : Logging) (c : CellId) : (s.logFault l).cell c = s.cell c := rfl

/-! ### `reachTime` -/

@[simp] theorem State.reachTime_pending (t : Time) : (s.reachTime t).pending = s.pending := rfl
@[simp] theorem State.reachTime_hold (t : Time) : (s.reachTime t).hold = s.hold := rfl
@[simp] theorem State.reachTime_resetNLow (t : Time) : (s.reachTime t).resetNLow = s.resetNLow := rfl
@[simp] theorem State.reachTime_nodes (t : Time) : (s.reachTime t).nodes = s.nodes := rfl
@[simp] theorem State.reachTime_lastNode (t : Time) : (s.reachTime t).lastNode = s.lastNode := rfl
@[simp] theorem State.reachTime_intake (t : Time) : (s.reachTime t).intake = s.intake := rfl
@[simp] theorem State.reachTime_streams (t : Time) : (s.reachTime t).streams = s.streams := rfl
@[simp] theorem State.reachTime_groups (t : Time) : (s.reachTime t).groups = s.groups := rfl
@[simp] theorem State.reachTime_freeRows (t : Time) : (s.reachTime t).freeRows = s.freeRows := rfl
@[simp] theorem State.reachTime_cells (t : Time) : (s.reachTime t).cells = s.cells := rfl
@[simp] theorem State.reachTime_freeCells (t : Time) : (s.reachTime t).freeCells = s.freeCells := rfl
@[simp] theorem State.reachTime_trunks (t : Time) : (s.reachTime t).trunks = s.trunks := rfl
@[simp] theorem State.reachTime_lastTrunk (t : Time) : (s.reachTime t).lastTrunk = s.lastTrunk := rfl
@[simp] theorem State.reachTime_softPending (t : Time) : (s.reachTime t).softPending = s.softPending := rfl
@[simp] theorem State.reachTime_log (t : Time) : (s.reachTime t).log = s.log := rfl
@[simp] theorem State.reachTime_alertMask (t : Time) : (s.reachTime t).alertMask = s.alertMask := rfl
@[simp] theorem State.reachTime_cause (t : Time) : (s.reachTime t).cause = s.cause := rfl
@[simp] theorem State.reachTime_softCount (t : Time) : (s.reachTime t).softCount = s.softCount := rfl
@[simp] theorem State.reachTime_draws (t : Time) : (s.reachTime t).draws = s.draws := rfl
@[simp] theorem State.reachTime_node (t : Time) (p : NodeId) : (s.reachTime t).node p = s.node p := rfl
@[simp] theorem State.reachTime_stream (t : Time) (i : StreamId) : (s.reachTime t).stream i = s.stream i := rfl
@[simp] theorem State.reachTime_group (t : Time) (g : GroupId) : (s.reachTime t).group g = s.group g := rfl
@[simp] theorem State.reachTime_trunk (t : Time) (q : TrunkId) : (s.reachTime t).trunk q = s.trunk q := rfl
@[simp] theorem State.reachTime_cell (t : Time) (c : CellId) : (s.reachTime t).cell c = s.cell c := rfl

/-! ### `writeCell` -/

@[simp] theorem State.writeCell_pending (c : CellId) (ws : List Word) : (s.writeCell c ws).pending = s.pending := rfl
@[simp] theorem State.writeCell_hold (c : CellId) (ws : List Word) : (s.writeCell c ws).hold = s.hold := rfl
@[simp] theorem State.writeCell_resetNLow (c : CellId) (ws : List Word) : (s.writeCell c ws).resetNLow = s.resetNLow := rfl
@[simp] theorem State.writeCell_time (c : CellId) (ws : List Word) : (s.writeCell c ws).time = s.time := rfl
@[simp] theorem State.writeCell_nodes (c : CellId) (ws : List Word) : (s.writeCell c ws).nodes = s.nodes := rfl
@[simp] theorem State.writeCell_lastNode (c : CellId) (ws : List Word) : (s.writeCell c ws).lastNode = s.lastNode := rfl
@[simp] theorem State.writeCell_intake (c : CellId) (ws : List Word) : (s.writeCell c ws).intake = s.intake := rfl
@[simp] theorem State.writeCell_streams (c : CellId) (ws : List Word) : (s.writeCell c ws).streams = s.streams := rfl
@[simp] theorem State.writeCell_groups (c : CellId) (ws : List Word) : (s.writeCell c ws).groups = s.groups := rfl
@[simp] theorem State.writeCell_freeRows (c : CellId) (ws : List Word) : (s.writeCell c ws).freeRows = s.freeRows := rfl
@[simp] theorem State.writeCell_freeCells (c : CellId) (ws : List Word) : (s.writeCell c ws).freeCells = s.freeCells := rfl
@[simp] theorem State.writeCell_trunks (c : CellId) (ws : List Word) : (s.writeCell c ws).trunks = s.trunks := rfl
@[simp] theorem State.writeCell_lastTrunk (c : CellId) (ws : List Word) : (s.writeCell c ws).lastTrunk = s.lastTrunk := rfl
@[simp] theorem State.writeCell_softPending (c : CellId) (ws : List Word) : (s.writeCell c ws).softPending = s.softPending := rfl
@[simp] theorem State.writeCell_log (c : CellId) (ws : List Word) : (s.writeCell c ws).log = s.log := rfl
@[simp] theorem State.writeCell_alertMask (c : CellId) (ws : List Word) : (s.writeCell c ws).alertMask = s.alertMask := rfl
@[simp] theorem State.writeCell_cause (c : CellId) (ws : List Word) : (s.writeCell c ws).cause = s.cause := rfl
@[simp] theorem State.writeCell_softCount (c : CellId) (ws : List Word) : (s.writeCell c ws).softCount = s.softCount := rfl
@[simp] theorem State.writeCell_draws (c : CellId) (ws : List Word) : (s.writeCell c ws).draws = s.draws := rfl
@[simp] theorem State.writeCell_node (c : CellId) (ws : List Word) (p : NodeId) : (s.writeCell c ws).node p = s.node p := rfl
@[simp] theorem State.writeCell_stream (c : CellId) (ws : List Word) (i : StreamId) : (s.writeCell c ws).stream i = s.stream i := rfl
@[simp] theorem State.writeCell_group (c : CellId) (ws : List Word) (g : GroupId) : (s.writeCell c ws).group g = s.group g := rfl
@[simp] theorem State.writeCell_trunk (c : CellId) (ws : List Word) (q : TrunkId) : (s.writeCell c ws).trunk q = s.trunk q := rfl

/-! ### `freeCellList` -/

@[simp] theorem State.freeCellList_pending (cs : List CellId) : (s.freeCellList cs).pending = s.pending := rfl
@[simp] theorem State.freeCellList_hold (cs : List CellId) : (s.freeCellList cs).hold = s.hold := rfl
@[simp] theorem State.freeCellList_resetNLow (cs : List CellId) : (s.freeCellList cs).resetNLow = s.resetNLow := rfl
@[simp] theorem State.freeCellList_time (cs : List CellId) : (s.freeCellList cs).time = s.time := rfl
@[simp] theorem State.freeCellList_nodes (cs : List CellId) : (s.freeCellList cs).nodes = s.nodes := rfl
@[simp] theorem State.freeCellList_lastNode (cs : List CellId) : (s.freeCellList cs).lastNode = s.lastNode := rfl
@[simp] theorem State.freeCellList_intake (cs : List CellId) : (s.freeCellList cs).intake = s.intake := rfl
@[simp] theorem State.freeCellList_streams (cs : List CellId) : (s.freeCellList cs).streams = s.streams := rfl
@[simp] theorem State.freeCellList_groups (cs : List CellId) : (s.freeCellList cs).groups = s.groups := rfl
@[simp] theorem State.freeCellList_freeRows (cs : List CellId) : (s.freeCellList cs).freeRows = s.freeRows := rfl
@[simp] theorem State.freeCellList_cells (cs : List CellId) : (s.freeCellList cs).cells = s.cells := rfl
@[simp] theorem State.freeCellList_trunks (cs : List CellId) : (s.freeCellList cs).trunks = s.trunks := rfl
@[simp] theorem State.freeCellList_lastTrunk (cs : List CellId) : (s.freeCellList cs).lastTrunk = s.lastTrunk := rfl
@[simp] theorem State.freeCellList_softPending (cs : List CellId) : (s.freeCellList cs).softPending = s.softPending := rfl
@[simp] theorem State.freeCellList_log (cs : List CellId) : (s.freeCellList cs).log = s.log := rfl
@[simp] theorem State.freeCellList_alertMask (cs : List CellId) : (s.freeCellList cs).alertMask = s.alertMask := rfl
@[simp] theorem State.freeCellList_cause (cs : List CellId) : (s.freeCellList cs).cause = s.cause := rfl
@[simp] theorem State.freeCellList_softCount (cs : List CellId) : (s.freeCellList cs).softCount = s.softCount := rfl
@[simp] theorem State.freeCellList_draws (cs : List CellId) : (s.freeCellList cs).draws = s.draws := rfl
@[simp] theorem State.freeCellList_node (cs : List CellId) (p : NodeId) : (s.freeCellList cs).node p = s.node p := rfl
@[simp] theorem State.freeCellList_stream (cs : List CellId) (i : StreamId) : (s.freeCellList cs).stream i = s.stream i := rfl
@[simp] theorem State.freeCellList_group (cs : List CellId) (g : GroupId) : (s.freeCellList cs).group g = s.group g := rfl
@[simp] theorem State.freeCellList_trunk (cs : List CellId) (q : TrunkId) : (s.freeCellList cs).trunk q = s.trunk q := rfl
@[simp] theorem State.freeCellList_cell (cs : List CellId) (c : CellId) : (s.freeCellList cs).cell c = s.cell c := rfl

/-! ### `freeRowList` -/

@[simp] theorem State.freeRowList_pending (rs : List RowId) : (s.freeRowList rs).pending = s.pending := rfl
@[simp] theorem State.freeRowList_hold (rs : List RowId) : (s.freeRowList rs).hold = s.hold := rfl
@[simp] theorem State.freeRowList_resetNLow (rs : List RowId) : (s.freeRowList rs).resetNLow = s.resetNLow := rfl
@[simp] theorem State.freeRowList_time (rs : List RowId) : (s.freeRowList rs).time = s.time := rfl
@[simp] theorem State.freeRowList_nodes (rs : List RowId) : (s.freeRowList rs).nodes = s.nodes := rfl
@[simp] theorem State.freeRowList_lastNode (rs : List RowId) : (s.freeRowList rs).lastNode = s.lastNode := rfl
@[simp] theorem State.freeRowList_intake (rs : List RowId) : (s.freeRowList rs).intake = s.intake := rfl
@[simp] theorem State.freeRowList_streams (rs : List RowId) : (s.freeRowList rs).streams = s.streams := rfl
@[simp] theorem State.freeRowList_groups (rs : List RowId) : (s.freeRowList rs).groups = s.groups := rfl
@[simp] theorem State.freeRowList_cells (rs : List RowId) : (s.freeRowList rs).cells = s.cells := rfl
@[simp] theorem State.freeRowList_freeCells (rs : List RowId) : (s.freeRowList rs).freeCells = s.freeCells := rfl
@[simp] theorem State.freeRowList_trunks (rs : List RowId) : (s.freeRowList rs).trunks = s.trunks := rfl
@[simp] theorem State.freeRowList_lastTrunk (rs : List RowId) : (s.freeRowList rs).lastTrunk = s.lastTrunk := rfl
@[simp] theorem State.freeRowList_softPending (rs : List RowId) : (s.freeRowList rs).softPending = s.softPending := rfl
@[simp] theorem State.freeRowList_log (rs : List RowId) : (s.freeRowList rs).log = s.log := rfl
@[simp] theorem State.freeRowList_alertMask (rs : List RowId) : (s.freeRowList rs).alertMask = s.alertMask := rfl
@[simp] theorem State.freeRowList_cause (rs : List RowId) : (s.freeRowList rs).cause = s.cause := rfl
@[simp] theorem State.freeRowList_softCount (rs : List RowId) : (s.freeRowList rs).softCount = s.softCount := rfl
@[simp] theorem State.freeRowList_draws (rs : List RowId) : (s.freeRowList rs).draws = s.draws := rfl
@[simp] theorem State.freeRowList_node (rs : List RowId) (p : NodeId) : (s.freeRowList rs).node p = s.node p := rfl
@[simp] theorem State.freeRowList_stream (rs : List RowId) (i : StreamId) : (s.freeRowList rs).stream i = s.stream i := rfl
@[simp] theorem State.freeRowList_group (rs : List RowId) (g : GroupId) : (s.freeRowList rs).group g = s.group g := rfl
@[simp] theorem State.freeRowList_trunk (rs : List RowId) (q : TrunkId) : (s.freeRowList rs).trunk q = s.trunk q := rfl
@[simp] theorem State.freeRowList_cell (rs : List RowId) (c : CellId) : (s.freeRowList rs).cell c = s.cell c := rfl

/-! ### `countNode` -/

@[simp] theorem State.countNode_pending (p : NodeId) (c : PortCounter) (k : Nat) : (s.countNode p c k).pending = s.pending := rfl
@[simp] theorem State.countNode_hold (p : NodeId) (c : PortCounter) (k : Nat) : (s.countNode p c k).hold = s.hold := rfl
@[simp] theorem State.countNode_resetNLow (p : NodeId) (c : PortCounter) (k : Nat) : (s.countNode p c k).resetNLow = s.resetNLow := rfl
@[simp] theorem State.countNode_time (p : NodeId) (c : PortCounter) (k : Nat) : (s.countNode p c k).time = s.time := rfl
@[simp] theorem State.countNode_lastNode (p : NodeId) (c : PortCounter) (k : Nat) : (s.countNode p c k).lastNode = s.lastNode := rfl
@[simp] theorem State.countNode_intake (p : NodeId) (c : PortCounter) (k : Nat) : (s.countNode p c k).intake = s.intake := rfl
@[simp] theorem State.countNode_streams (p : NodeId) (c : PortCounter) (k : Nat) : (s.countNode p c k).streams = s.streams := rfl
@[simp] theorem State.countNode_groups (p : NodeId) (c : PortCounter) (k : Nat) : (s.countNode p c k).groups = s.groups := rfl
@[simp] theorem State.countNode_freeRows (p : NodeId) (c : PortCounter) (k : Nat) : (s.countNode p c k).freeRows = s.freeRows := rfl
@[simp] theorem State.countNode_cells (p : NodeId) (c : PortCounter) (k : Nat) : (s.countNode p c k).cells = s.cells := rfl
@[simp] theorem State.countNode_freeCells (p : NodeId) (c : PortCounter) (k : Nat) : (s.countNode p c k).freeCells = s.freeCells := rfl
@[simp] theorem State.countNode_trunks (p : NodeId) (c : PortCounter) (k : Nat) : (s.countNode p c k).trunks = s.trunks := rfl
@[simp] theorem State.countNode_lastTrunk (p : NodeId) (c : PortCounter) (k : Nat) : (s.countNode p c k).lastTrunk = s.lastTrunk := rfl
@[simp] theorem State.countNode_softPending (p : NodeId) (c : PortCounter) (k : Nat) : (s.countNode p c k).softPending = s.softPending := rfl
@[simp] theorem State.countNode_log (p : NodeId) (c : PortCounter) (k : Nat) : (s.countNode p c k).log = s.log := rfl
@[simp] theorem State.countNode_alertMask (p : NodeId) (c : PortCounter) (k : Nat) : (s.countNode p c k).alertMask = s.alertMask := rfl
@[simp] theorem State.countNode_cause (p : NodeId) (c : PortCounter) (k : Nat) : (s.countNode p c k).cause = s.cause := rfl
@[simp] theorem State.countNode_softCount (p : NodeId) (c : PortCounter) (k : Nat) : (s.countNode p c k).softCount = s.softCount := rfl
@[simp] theorem State.countNode_draws (p : NodeId) (c : PortCounter) (k : Nat) : (s.countNode p c k).draws = s.draws := rfl
@[simp] theorem State.countNode_stream (p : NodeId) (c : PortCounter) (k : Nat) (i : StreamId) : (s.countNode p c k).stream i = s.stream i := rfl
@[simp] theorem State.countNode_group (p : NodeId) (c : PortCounter) (k : Nat) (g : GroupId) : (s.countNode p c k).group g = s.group g := rfl
@[simp] theorem State.countNode_trunk (p : NodeId) (c : PortCounter) (k : Nat) (q : TrunkId) : (s.countNode p c k).trunk q = s.trunk q := rfl
@[simp] theorem State.countNode_cell (p : NodeId) (c : PortCounter) (k : Nat) (c' : CellId) : (s.countNode p c k).cell c' = s.cell c' := rfl

/-! ### `countStream` -/

@[simp] theorem State.countStream_pending (i : StreamId) (c : StreamCounter) : (s.countStream i c).pending = s.pending := rfl
@[simp] theorem State.countStream_hold (i : StreamId) (c : StreamCounter) : (s.countStream i c).hold = s.hold := rfl
@[simp] theorem State.countStream_resetNLow (i : StreamId) (c : StreamCounter) : (s.countStream i c).resetNLow = s.resetNLow := rfl
@[simp] theorem State.countStream_time (i : StreamId) (c : StreamCounter) : (s.countStream i c).time = s.time := rfl
@[simp] theorem State.countStream_nodes (i : StreamId) (c : StreamCounter) : (s.countStream i c).nodes = s.nodes := rfl
@[simp] theorem State.countStream_lastNode (i : StreamId) (c : StreamCounter) : (s.countStream i c).lastNode = s.lastNode := rfl
@[simp] theorem State.countStream_intake (i : StreamId) (c : StreamCounter) : (s.countStream i c).intake = s.intake := rfl
@[simp] theorem State.countStream_groups (i : StreamId) (c : StreamCounter) : (s.countStream i c).groups = s.groups := rfl
@[simp] theorem State.countStream_freeRows (i : StreamId) (c : StreamCounter) : (s.countStream i c).freeRows = s.freeRows := rfl
@[simp] theorem State.countStream_cells (i : StreamId) (c : StreamCounter) : (s.countStream i c).cells = s.cells := rfl
@[simp] theorem State.countStream_freeCells (i : StreamId) (c : StreamCounter) : (s.countStream i c).freeCells = s.freeCells := rfl
@[simp] theorem State.countStream_trunks (i : StreamId) (c : StreamCounter) : (s.countStream i c).trunks = s.trunks := rfl
@[simp] theorem State.countStream_lastTrunk (i : StreamId) (c : StreamCounter) : (s.countStream i c).lastTrunk = s.lastTrunk := rfl
@[simp] theorem State.countStream_softPending (i : StreamId) (c : StreamCounter) : (s.countStream i c).softPending = s.softPending := rfl
@[simp] theorem State.countStream_log (i : StreamId) (c : StreamCounter) : (s.countStream i c).log = s.log := rfl
@[simp] theorem State.countStream_alertMask (i : StreamId) (c : StreamCounter) : (s.countStream i c).alertMask = s.alertMask := rfl
@[simp] theorem State.countStream_cause (i : StreamId) (c : StreamCounter) : (s.countStream i c).cause = s.cause := rfl
@[simp] theorem State.countStream_softCount (i : StreamId) (c : StreamCounter) : (s.countStream i c).softCount = s.softCount := rfl
@[simp] theorem State.countStream_draws (i : StreamId) (c : StreamCounter) : (s.countStream i c).draws = s.draws := rfl
@[simp] theorem State.countStream_node (i : StreamId) (c : StreamCounter) (p : NodeId) : (s.countStream i c).node p = s.node p := rfl
@[simp] theorem State.countStream_group (i : StreamId) (c : StreamCounter) (g : GroupId) : (s.countStream i c).group g = s.group g := rfl
@[simp] theorem State.countStream_trunk (i : StreamId) (c : StreamCounter) (q : TrunkId) : (s.countStream i c).trunk q = s.trunk q := rfl
@[simp] theorem State.countStream_cell (i : StreamId) (c : StreamCounter) (c' : CellId) : (s.countStream i c).cell c' = s.cell c' := rfl

/-! ### `countGroup` -/

@[simp] theorem State.countGroup_pending (g : GroupId) (c : GroupCounter) (k : Nat) : (s.countGroup g c k).pending = s.pending := rfl
@[simp] theorem State.countGroup_hold (g : GroupId) (c : GroupCounter) (k : Nat) : (s.countGroup g c k).hold = s.hold := rfl
@[simp] theorem State.countGroup_resetNLow (g : GroupId) (c : GroupCounter) (k : Nat) : (s.countGroup g c k).resetNLow = s.resetNLow := rfl
@[simp] theorem State.countGroup_time (g : GroupId) (c : GroupCounter) (k : Nat) : (s.countGroup g c k).time = s.time := rfl
@[simp] theorem State.countGroup_nodes (g : GroupId) (c : GroupCounter) (k : Nat) : (s.countGroup g c k).nodes = s.nodes := rfl
@[simp] theorem State.countGroup_lastNode (g : GroupId) (c : GroupCounter) (k : Nat) : (s.countGroup g c k).lastNode = s.lastNode := rfl
@[simp] theorem State.countGroup_intake (g : GroupId) (c : GroupCounter) (k : Nat) : (s.countGroup g c k).intake = s.intake := rfl
@[simp] theorem State.countGroup_streams (g : GroupId) (c : GroupCounter) (k : Nat) : (s.countGroup g c k).streams = s.streams := rfl
@[simp] theorem State.countGroup_freeRows (g : GroupId) (c : GroupCounter) (k : Nat) : (s.countGroup g c k).freeRows = s.freeRows := rfl
@[simp] theorem State.countGroup_cells (g : GroupId) (c : GroupCounter) (k : Nat) : (s.countGroup g c k).cells = s.cells := rfl
@[simp] theorem State.countGroup_freeCells (g : GroupId) (c : GroupCounter) (k : Nat) : (s.countGroup g c k).freeCells = s.freeCells := rfl
@[simp] theorem State.countGroup_trunks (g : GroupId) (c : GroupCounter) (k : Nat) : (s.countGroup g c k).trunks = s.trunks := rfl
@[simp] theorem State.countGroup_lastTrunk (g : GroupId) (c : GroupCounter) (k : Nat) : (s.countGroup g c k).lastTrunk = s.lastTrunk := rfl
@[simp] theorem State.countGroup_softPending (g : GroupId) (c : GroupCounter) (k : Nat) : (s.countGroup g c k).softPending = s.softPending := rfl
@[simp] theorem State.countGroup_log (g : GroupId) (c : GroupCounter) (k : Nat) : (s.countGroup g c k).log = s.log := rfl
@[simp] theorem State.countGroup_alertMask (g : GroupId) (c : GroupCounter) (k : Nat) : (s.countGroup g c k).alertMask = s.alertMask := rfl
@[simp] theorem State.countGroup_cause (g : GroupId) (c : GroupCounter) (k : Nat) : (s.countGroup g c k).cause = s.cause := rfl
@[simp] theorem State.countGroup_softCount (g : GroupId) (c : GroupCounter) (k : Nat) : (s.countGroup g c k).softCount = s.softCount := rfl
@[simp] theorem State.countGroup_draws (g : GroupId) (c : GroupCounter) (k : Nat) : (s.countGroup g c k).draws = s.draws := rfl
@[simp] theorem State.countGroup_node (g : GroupId) (c : GroupCounter) (k : Nat) (p : NodeId) : (s.countGroup g c k).node p = s.node p := rfl
@[simp] theorem State.countGroup_stream (g : GroupId) (c : GroupCounter) (k : Nat) (i : StreamId) : (s.countGroup g c k).stream i = s.stream i := rfl
@[simp] theorem State.countGroup_trunk (g : GroupId) (c : GroupCounter) (k : Nat) (q : TrunkId) : (s.countGroup g c k).trunk q = s.trunk q := rfl
@[simp] theorem State.countGroup_cell (g : GroupId) (c : GroupCounter) (k : Nat) (c' : CellId) : (s.countGroup g c k).cell c' = s.cell c' := rfl

/-! ### `countTrunk` -/

@[simp] theorem State.countTrunk_pending (p : TrunkId) (c : TrunkCounter) (k : Nat) : (s.countTrunk p c k).pending = s.pending := rfl
@[simp] theorem State.countTrunk_hold (p : TrunkId) (c : TrunkCounter) (k : Nat) : (s.countTrunk p c k).hold = s.hold := rfl
@[simp] theorem State.countTrunk_resetNLow (p : TrunkId) (c : TrunkCounter) (k : Nat) : (s.countTrunk p c k).resetNLow = s.resetNLow := rfl
@[simp] theorem State.countTrunk_time (p : TrunkId) (c : TrunkCounter) (k : Nat) : (s.countTrunk p c k).time = s.time := rfl
@[simp] theorem State.countTrunk_nodes (p : TrunkId) (c : TrunkCounter) (k : Nat) : (s.countTrunk p c k).nodes = s.nodes := rfl
@[simp] theorem State.countTrunk_lastNode (p : TrunkId) (c : TrunkCounter) (k : Nat) : (s.countTrunk p c k).lastNode = s.lastNode := rfl
@[simp] theorem State.countTrunk_intake (p : TrunkId) (c : TrunkCounter) (k : Nat) : (s.countTrunk p c k).intake = s.intake := rfl
@[simp] theorem State.countTrunk_streams (p : TrunkId) (c : TrunkCounter) (k : Nat) : (s.countTrunk p c k).streams = s.streams := rfl
@[simp] theorem State.countTrunk_groups (p : TrunkId) (c : TrunkCounter) (k : Nat) : (s.countTrunk p c k).groups = s.groups := rfl
@[simp] theorem State.countTrunk_freeRows (p : TrunkId) (c : TrunkCounter) (k : Nat) : (s.countTrunk p c k).freeRows = s.freeRows := rfl
@[simp] theorem State.countTrunk_cells (p : TrunkId) (c : TrunkCounter) (k : Nat) : (s.countTrunk p c k).cells = s.cells := rfl
@[simp] theorem State.countTrunk_freeCells (p : TrunkId) (c : TrunkCounter) (k : Nat) : (s.countTrunk p c k).freeCells = s.freeCells := rfl
@[simp] theorem State.countTrunk_lastTrunk (p : TrunkId) (c : TrunkCounter) (k : Nat) : (s.countTrunk p c k).lastTrunk = s.lastTrunk := rfl
@[simp] theorem State.countTrunk_softPending (p : TrunkId) (c : TrunkCounter) (k : Nat) : (s.countTrunk p c k).softPending = s.softPending := rfl
@[simp] theorem State.countTrunk_log (p : TrunkId) (c : TrunkCounter) (k : Nat) : (s.countTrunk p c k).log = s.log := rfl
@[simp] theorem State.countTrunk_alertMask (p : TrunkId) (c : TrunkCounter) (k : Nat) : (s.countTrunk p c k).alertMask = s.alertMask := rfl
@[simp] theorem State.countTrunk_cause (p : TrunkId) (c : TrunkCounter) (k : Nat) : (s.countTrunk p c k).cause = s.cause := rfl
@[simp] theorem State.countTrunk_softCount (p : TrunkId) (c : TrunkCounter) (k : Nat) : (s.countTrunk p c k).softCount = s.softCount := rfl
@[simp] theorem State.countTrunk_draws (p : TrunkId) (c : TrunkCounter) (k : Nat) : (s.countTrunk p c k).draws = s.draws := rfl
@[simp] theorem State.countTrunk_node (p : TrunkId) (c : TrunkCounter) (k : Nat) (p' : NodeId) : (s.countTrunk p c k).node p' = s.node p' := rfl
@[simp] theorem State.countTrunk_stream (p : TrunkId) (c : TrunkCounter) (k : Nat) (i : StreamId) : (s.countTrunk p c k).stream i = s.stream i := rfl
@[simp] theorem State.countTrunk_group (p : TrunkId) (c : TrunkCounter) (k : Nat) (g : GroupId) : (s.countTrunk p c k).group g = s.group g := rfl
@[simp] theorem State.countTrunk_cell (p : TrunkId) (c : TrunkCounter) (k : Nat) (c' : CellId) : (s.countTrunk p c k).cell c' = s.cell c' := rfl

/-! ### `handAttempt` -/

@[simp] theorem State.handAttempt_pending (g : GroupId) : (s.handAttempt g).pending = s.pending := rfl
@[simp] theorem State.handAttempt_hold (g : GroupId) : (s.handAttempt g).hold = s.hold := rfl
@[simp] theorem State.handAttempt_resetNLow (g : GroupId) : (s.handAttempt g).resetNLow = s.resetNLow := rfl
@[simp] theorem State.handAttempt_time (g : GroupId) : (s.handAttempt g).time = s.time := rfl
@[simp] theorem State.handAttempt_nodes (g : GroupId) : (s.handAttempt g).nodes = s.nodes := rfl
@[simp] theorem State.handAttempt_lastNode (g : GroupId) : (s.handAttempt g).lastNode = s.lastNode := rfl
@[simp] theorem State.handAttempt_intake (g : GroupId) : (s.handAttempt g).intake = s.intake := rfl
@[simp] theorem State.handAttempt_streams (g : GroupId) : (s.handAttempt g).streams = s.streams := rfl
@[simp] theorem State.handAttempt_freeRows (g : GroupId) : (s.handAttempt g).freeRows = s.freeRows := rfl
@[simp] theorem State.handAttempt_cells (g : GroupId) : (s.handAttempt g).cells = s.cells := rfl
@[simp] theorem State.handAttempt_freeCells (g : GroupId) : (s.handAttempt g).freeCells = s.freeCells := rfl
@[simp] theorem State.handAttempt_trunks (g : GroupId) : (s.handAttempt g).trunks = s.trunks := rfl
@[simp] theorem State.handAttempt_lastTrunk (g : GroupId) : (s.handAttempt g).lastTrunk = s.lastTrunk := rfl
@[simp] theorem State.handAttempt_softPending (g : GroupId) : (s.handAttempt g).softPending = s.softPending := rfl
@[simp] theorem State.handAttempt_log (g : GroupId) : (s.handAttempt g).log = s.log := rfl
@[simp] theorem State.handAttempt_alertMask (g : GroupId) : (s.handAttempt g).alertMask = s.alertMask := rfl
@[simp] theorem State.handAttempt_cause (g : GroupId) : (s.handAttempt g).cause = s.cause := rfl
@[simp] theorem State.handAttempt_softCount (g : GroupId) : (s.handAttempt g).softCount = s.softCount := rfl
@[simp] theorem State.handAttempt_draws (g : GroupId) : (s.handAttempt g).draws = s.draws := rfl
@[simp] theorem State.handAttempt_node (g : GroupId) (p : NodeId) : (s.handAttempt g).node p = s.node p := rfl
@[simp] theorem State.handAttempt_stream (g : GroupId) (i : StreamId) : (s.handAttempt g).stream i = s.stream i := rfl
@[simp] theorem State.handAttempt_trunk (g : GroupId) (q : TrunkId) : (s.handAttempt g).trunk q = s.trunk q := rfl
@[simp] theorem State.handAttempt_cell (g : GroupId) (c : CellId) : (s.handAttempt g).cell c = s.cell c := rfl

/-! ### Reading what was replaced -/

/-- Reading `node` after `setNode`. -/
theorem State.node_setNode (p q : NodeId) (x : NodePort) : (s.setNode p x).node q = if p = q then x else s.node q := by
  simp only [State.node, State.setNode, Vector.getElem_set, Fin.ext_iff]

@[simp] theorem State.node_setNode_self (p : NodeId) (x : NodePort) : (s.setNode p x).node p = x := by
  simp [State.node_setNode]

@[simp] theorem State.node_modNode_self (p : NodeId) (f : NodePort → NodePort) : (s.modNode p f).node p = f (s.node p) := by
  simp [State.modNode]

theorem State.node_modNode (p q : NodeId) (f : NodePort → NodePort) : (s.modNode p f).node q = if p = q then f (s.node p) else s.node q := by
  simp [State.modNode, State.node_setNode]

theorem State.node_modNode_of_ne (p q : NodeId) (f : NodePort → NodePort) (h : p ≠ q) : (s.modNode p f).node q = s.node q := by
  simp [State.node_modNode, h]

/-- Reading `stream` after `setStream`. -/
theorem State.stream_setStream (p q : StreamId) (x : Stream) : (s.setStream p x).stream q = if p = q then x else s.stream q := by
  simp only [State.stream, State.setStream, Vector.getElem_set, Fin.ext_iff]

@[simp] theorem State.stream_setStream_self (p : StreamId) (x : Stream) : (s.setStream p x).stream p = x := by
  simp [State.stream_setStream]

@[simp] theorem State.stream_modStream_self (p : StreamId) (f : Stream → Stream) : (s.modStream p f).stream p = f (s.stream p) := by
  simp [State.modStream]

theorem State.stream_modStream (p q : StreamId) (f : Stream → Stream) : (s.modStream p f).stream q = if p = q then f (s.stream p) else s.stream q := by
  simp [State.modStream, State.stream_setStream]

theorem State.stream_modStream_of_ne (p q : StreamId) (f : Stream → Stream) (h : p ≠ q) : (s.modStream p f).stream q = s.stream q := by
  simp [State.stream_modStream, h]

/-- Reading `group` after `setGroup`. -/
theorem State.group_setGroup (p q : GroupId) (x : Group) : (s.setGroup p x).group q = if p = q then x else s.group q := by
  simp only [State.group, State.setGroup, Vector.getElem_set, Fin.ext_iff]

@[simp] theorem State.group_setGroup_self (p : GroupId) (x : Group) : (s.setGroup p x).group p = x := by
  simp [State.group_setGroup]

@[simp] theorem State.group_modGroup_self (p : GroupId) (f : Group → Group) : (s.modGroup p f).group p = f (s.group p) := by
  simp [State.modGroup]

theorem State.group_modGroup (p q : GroupId) (f : Group → Group) : (s.modGroup p f).group q = if p = q then f (s.group p) else s.group q := by
  simp [State.modGroup, State.group_setGroup]

theorem State.group_modGroup_of_ne (p q : GroupId) (f : Group → Group) (h : p ≠ q) : (s.modGroup p f).group q = s.group q := by
  simp [State.group_modGroup, h]

/-- Reading `trunk` after `setTrunk`. -/
theorem State.trunk_setTrunk (p q : TrunkId) (x : Trunk) : (s.setTrunk p x).trunk q = if p = q then x else s.trunk q := by
  simp only [State.trunk, State.setTrunk, Vector.getElem_set, Fin.ext_iff]

@[simp] theorem State.trunk_setTrunk_self (p : TrunkId) (x : Trunk) : (s.setTrunk p x).trunk p = x := by
  simp [State.trunk_setTrunk]

@[simp] theorem State.trunk_modTrunk_self (p : TrunkId) (f : Trunk → Trunk) : (s.modTrunk p f).trunk p = f (s.trunk p) := by
  simp [State.modTrunk]

theorem State.trunk_modTrunk (p q : TrunkId) (f : Trunk → Trunk) : (s.modTrunk p f).trunk q = if p = q then f (s.trunk p) else s.trunk q := by
  simp [State.modTrunk, State.trunk_setTrunk]

theorem State.trunk_modTrunk_of_ne (p q : TrunkId) (f : Trunk → Trunk) (h : p ≠ q) : (s.modTrunk p f).trunk q = s.trunk q := by
  simp [State.trunk_modTrunk, h]

/-- Reading a stream after every entry was mapped. -/
@[simp] theorem State.stream_mapStreams (f : StreamId → Stream → Stream) (i : StreamId) :
    (s.mapStreams f).stream i = f i (s.stream i) := by
  simp [State.stream, State.mapStreams]

/-- Two states are equal when every field is. -/
theorem State.ext_fields {s t : State} (h1 : s.pending = t.pending) (h2 : s.hold = t.hold) (h3 : s.resetNLow = t.resetNLow)
    (h4 : s.time = t.time) (h5 : s.nodes = t.nodes) (h6 : s.lastNode = t.lastNode) (h7 : s.intake = t.intake)
    (h8 : s.streams = t.streams) (h9 : s.groups = t.groups) (h10 : s.freeRows = t.freeRows) (h11 : s.cells = t.cells)
    (h12 : s.freeCells = t.freeCells) (h13 : s.trunks = t.trunks) (h14 : s.lastTrunk = t.lastTrunk)
    (h15 : s.softPending = t.softPending) (h16 : s.log = t.log) (h17 : s.alertMask = t.alertMask) (h18 : s.cause = t.cause)
    (h19 : s.softCount = t.softCount) (h20 : s.draws = t.draws) : s = t := by
  cases s; cases t; simp_all

end Sys2Proof.Machine
end

