-- ==== Sys2Proof/Laws/Frames.lean ====
section
/-! SUPPORT. The frames of the shared operations: for each, every field of the state that it leaves alone.  One lemma for one
operation, its conclusion a conjunction, so that `simp` rewrites with each part of it. -/

namespace Sys2Proof.Machine

/-! ### Templates -/

@[simp] theorem State.unbindUnnamed_frame (s : State) (g : GroupId):
    (s.unbindUnnamed g).pending = s.pending ∧ (s.unbindUnnamed g).hold = s.hold ∧ (s.unbindUnnamed g).resetNLow = s.resetNLow ∧
    (s.unbindUnnamed g).time = s.time ∧ (s.unbindUnnamed g).nodes = s.nodes ∧ (s.unbindUnnamed g).lastNode = s.lastNode ∧
    (s.unbindUnnamed g).intake = s.intake ∧ (s.unbindUnnamed g).groups = s.groups ∧ (s.unbindUnnamed g).freeRows = s.freeRows ∧
    (s.unbindUnnamed g).cells = s.cells ∧ (s.unbindUnnamed g).freeCells = s.freeCells ∧ (s.unbindUnnamed g).trunks = s.trunks ∧
    (s.unbindUnnamed g).lastTrunk = s.lastTrunk ∧ (s.unbindUnnamed g).softPending = s.softPending ∧ (s.unbindUnnamed g).log =
    s.log ∧ (s.unbindUnnamed g).alertMask = s.alertMask ∧ (s.unbindUnnamed g).cause = s.cause ∧ (s.unbindUnnamed g).softCount =
    s.softCount ∧ (s.unbindUnnamed g).draws = s.draws ∧ (∀ j, (s.unbindUnnamed g).node j = s.node j) ∧ (∀ j, (s.unbindUnnamed
    g).group j = s.group j) ∧ (∀ j, (s.unbindUnnamed g).trunk j = s.trunk j) ∧ (∀ j, (s.unbindUnnamed g).cell j = s.cell j) := by
  simp [State.unbindUnnamed]

@[simp] theorem State.bindNew_frame (s : State) (g : GroupId) (slots : List Slot):
    (s.bindNew g slots).pending = s.pending ∧ (s.bindNew g slots).hold = s.hold ∧ (s.bindNew g slots).resetNLow = s.resetNLow ∧
    (s.bindNew g slots).time = s.time ∧ (s.bindNew g slots).nodes = s.nodes ∧ (s.bindNew g slots).lastNode = s.lastNode ∧
    (s.bindNew g slots).intake = s.intake ∧ (s.bindNew g slots).groups = s.groups ∧ (s.bindNew g slots).freeRows = s.freeRows ∧
    (s.bindNew g slots).cells = s.cells ∧ (s.bindNew g slots).freeCells = s.freeCells ∧ (s.bindNew g slots).trunks = s.trunks ∧
    (s.bindNew g slots).lastTrunk = s.lastTrunk ∧ (s.bindNew g slots).softPending = s.softPending ∧ (s.bindNew g slots).log =
    s.log ∧ (s.bindNew g slots).alertMask = s.alertMask ∧ (s.bindNew g slots).cause = s.cause ∧ (s.bindNew g slots).softCount =
    s.softCount ∧ (s.bindNew g slots).draws = s.draws ∧ (∀ j, (s.bindNew g slots).node j = s.node j) ∧ (∀ j, (s.bindNew g
    slots).group j = s.group j) ∧ (∀ j, (s.bindNew g slots).trunk j = s.trunk j) ∧ (∀ j, (s.bindNew g slots).cell j = s.cell j) := by
  simp [State.bindNew]

@[simp] theorem State.restartStreams_frame (s : State) (g : GroupId):
    (s.restartStreams g).pending = s.pending ∧ (s.restartStreams g).hold = s.hold ∧ (s.restartStreams g).resetNLow = s.resetNLow
    ∧ (s.restartStreams g).time = s.time ∧ (s.restartStreams g).nodes = s.nodes ∧ (s.restartStreams g).lastNode = s.lastNode ∧
    (s.restartStreams g).intake = s.intake ∧ (s.restartStreams g).groups = s.groups ∧ (s.restartStreams g).freeRows = s.freeRows
    ∧ (s.restartStreams g).cells = s.cells ∧ (s.restartStreams g).freeCells = s.freeCells ∧ (s.restartStreams g).trunks =
    s.trunks ∧ (s.restartStreams g).lastTrunk = s.lastTrunk ∧ (s.restartStreams g).softPending = s.softPending ∧
    (s.restartStreams g).log = s.log ∧ (s.restartStreams g).alertMask = s.alertMask ∧ (s.restartStreams g).cause = s.cause ∧
    (s.restartStreams g).softCount = s.softCount ∧ (s.restartStreams g).draws = s.draws ∧ (∀ j, (s.restartStreams g).node j =
    s.node j) ∧ (∀ j, (s.restartStreams g).group j = s.group j) ∧ (∀ j, (s.restartStreams g).trunk j = s.trunk j) ∧ (∀ j,
    (s.restartStreams g).cell j = s.cell j) := by
  simp [State.restartStreams]

@[simp] theorem State.takeSwitch_frame (s : State) (g : GroupId):
    (s.takeSwitch g).pending = s.pending ∧ (s.takeSwitch g).hold = s.hold ∧ (s.takeSwitch g).resetNLow = s.resetNLow ∧
    (s.takeSwitch g).time = s.time ∧ (s.takeSwitch g).nodes = s.nodes ∧ (s.takeSwitch g).lastNode = s.lastNode ∧ (s.takeSwitch
    g).intake = s.intake ∧ (s.takeSwitch g).freeRows = s.freeRows ∧ (s.takeSwitch g).cells = s.cells ∧ (s.takeSwitch
    g).freeCells = s.freeCells ∧ (s.takeSwitch g).trunks = s.trunks ∧ (s.takeSwitch g).lastTrunk = s.lastTrunk ∧ (s.takeSwitch
    g).softPending = s.softPending ∧ (s.takeSwitch g).log = s.log ∧ (s.takeSwitch g).alertMask = s.alertMask ∧ (s.takeSwitch
    g).cause = s.cause ∧ (s.takeSwitch g).softCount = s.softCount ∧ (s.takeSwitch g).draws = s.draws ∧ (∀ j, (s.takeSwitch
    g).node j = s.node j) ∧ (∀ j, (s.takeSwitch g).trunk j = s.trunk j) ∧ (∀ j, (s.takeSwitch g).cell j = s.cell j) := by
  unfold State.takeSwitch
  (repeat' split) <;> simp

@[simp] theorem State.moveCursor_frame (s : State) (g : GroupId) (n : Instant):
    (s.moveCursor g n).pending = s.pending ∧ (s.moveCursor g n).hold = s.hold ∧ (s.moveCursor g n).resetNLow = s.resetNLow ∧
    (s.moveCursor g n).time = s.time ∧ (s.moveCursor g n).nodes = s.nodes ∧ (s.moveCursor g n).lastNode = s.lastNode ∧
    (s.moveCursor g n).intake = s.intake ∧ (s.moveCursor g n).freeRows = s.freeRows ∧ (s.moveCursor g n).cells = s.cells ∧
    (s.moveCursor g n).freeCells = s.freeCells ∧ (s.moveCursor g n).trunks = s.trunks ∧ (s.moveCursor g n).lastTrunk =
    s.lastTrunk ∧ (s.moveCursor g n).softPending = s.softPending ∧ (s.moveCursor g n).log = s.log ∧ (s.moveCursor g n).alertMask
    = s.alertMask ∧ (s.moveCursor g n).cause = s.cause ∧ (s.moveCursor g n).softCount = s.softCount ∧ (s.moveCursor g n).draws =
    s.draws ∧ (∀ j, (s.moveCursor g n).node j = s.node j) ∧ (∀ j, (s.moveCursor g n).trunk j = s.trunk j) ∧ (∀ j, (s.moveCursor
    g n).cell j = s.cell j) := by
  unfold State.moveCursor
  dsimp only
  (repeat' split) <;> simp

@[simp] theorem State.completeDrain_frame (s : State) (g : GroupId):
    (s.completeDrain g).pending = s.pending ∧ (s.completeDrain g).hold = s.hold ∧ (s.completeDrain g).resetNLow = s.resetNLow ∧
    (s.completeDrain g).time = s.time ∧ (s.completeDrain g).nodes = s.nodes ∧ (s.completeDrain g).lastNode = s.lastNode ∧
    (s.completeDrain g).intake = s.intake ∧ (s.completeDrain g).freeRows = s.freeRows ∧ (s.completeDrain g).cells = s.cells ∧
    (s.completeDrain g).freeCells = s.freeCells ∧ (s.completeDrain g).trunks = s.trunks ∧ (s.completeDrain g).lastTrunk =
    s.lastTrunk ∧ (s.completeDrain g).softPending = s.softPending ∧ (s.completeDrain g).log = s.log ∧ (s.completeDrain
    g).alertMask = s.alertMask ∧ (s.completeDrain g).cause = s.cause ∧ (s.completeDrain g).softCount = s.softCount ∧
    (s.completeDrain g).draws = s.draws ∧ (∀ j, (s.completeDrain g).node j = s.node j) ∧ (∀ j, (s.completeDrain g).trunk j =
    s.trunk j) ∧ (∀ j, (s.completeDrain g).cell j = s.cell j) := by
  simp [State.completeDrain]

/-! ### Transmission -/

@[simp] theorem State.startMark_frame (s : State) (p : TrunkId):
    (s.startMark p).pending = s.pending ∧ (s.startMark p).hold = s.hold ∧ (s.startMark p).resetNLow = s.resetNLow ∧ (s.startMark
    p).time = s.time ∧ (s.startMark p).nodes = s.nodes ∧ (s.startMark p).lastNode = s.lastNode ∧ (s.startMark p).intake =
    s.intake ∧ (s.startMark p).streams = s.streams ∧ (s.startMark p).groups = s.groups ∧ (s.startMark p).freeRows = s.freeRows ∧
    (s.startMark p).cells = s.cells ∧ (s.startMark p).freeCells = s.freeCells ∧ (s.startMark p).lastTrunk = s.lastTrunk ∧
    (s.startMark p).softPending = s.softPending ∧ (s.startMark p).log = s.log ∧ (s.startMark p).alertMask = s.alertMask ∧
    (s.startMark p).cause = s.cause ∧ (s.startMark p).softCount = s.softCount ∧ (s.startMark p).draws = s.draws ∧ (∀ j,
    (s.startMark p).node j = s.node j) ∧ (∀ j, (s.startMark p).stream j = s.stream j) ∧ (∀ j, (s.startMark p).group j = s.group
    j) ∧ (∀ j, (s.startMark p).cell j = s.cell j) := by
  simp [State.startMark]

@[simp] theorem State.startReply_frame (s : State) (p : TrunkId) (r : Reply):
    (s.startReply p r).pending = s.pending ∧ (s.startReply p r).hold = s.hold ∧ (s.startReply p r).resetNLow = s.resetNLow ∧
    (s.startReply p r).time = s.time ∧ (s.startReply p r).nodes = s.nodes ∧ (s.startReply p r).lastNode = s.lastNode ∧
    (s.startReply p r).intake = s.intake ∧ (s.startReply p r).streams = s.streams ∧ (s.startReply p r).groups = s.groups ∧
    (s.startReply p r).freeRows = s.freeRows ∧ (s.startReply p r).cells = s.cells ∧ (s.startReply p r).freeCells = s.freeCells ∧
    (s.startReply p r).lastTrunk = s.lastTrunk ∧ (s.startReply p r).softPending = s.softPending ∧ (s.startReply p r).log = s.log
    ∧ (s.startReply p r).alertMask = s.alertMask ∧ (s.startReply p r).cause = s.cause ∧ (s.startReply p r).softCount =
    s.softCount ∧ (s.startReply p r).draws = s.draws ∧ (∀ j, (s.startReply p r).node j = s.node j) ∧ (∀ j, (s.startReply p
    r).stream j = s.stream j) ∧ (∀ j, (s.startReply p r).group j = s.group j) ∧ (∀ j, (s.startReply p r).cell j = s.cell j) := by
  simp [State.startReply]

@[simp] theorem State.startFrame_frame (s : State) (p : TrunkId) (r : FrameRecord) (rs : List FrameRecord):
    (s.startFrame p r rs).pending = s.pending ∧ (s.startFrame p r rs).hold = s.hold ∧ (s.startFrame p r rs).resetNLow =
    s.resetNLow ∧ (s.startFrame p r rs).time = s.time ∧ (s.startFrame p r rs).nodes = s.nodes ∧ (s.startFrame p r rs).lastNode =
    s.lastNode ∧ (s.startFrame p r rs).intake = s.intake ∧ (s.startFrame p r rs).streams = s.streams ∧ (s.startFrame p r
    rs).freeRows = s.freeRows ∧ (s.startFrame p r rs).cells = s.cells ∧ (s.startFrame p r rs).freeCells = s.freeCells ∧
    (s.startFrame p r rs).lastTrunk = s.lastTrunk ∧ (s.startFrame p r rs).softPending = s.softPending ∧ (s.startFrame p r
    rs).log = s.log ∧ (s.startFrame p r rs).alertMask = s.alertMask ∧ (s.startFrame p r rs).cause = s.cause ∧ (s.startFrame p r
    rs).softCount = s.softCount ∧ (s.startFrame p r rs).draws = s.draws ∧ (∀ j, (s.startFrame p r rs).node j = s.node j) ∧ (∀ j,
    (s.startFrame p r rs).stream j = s.stream j) ∧ (∀ j, (s.startFrame p r rs).cell j = s.cell j) := by
  simp [State.startFrame]

@[simp] theorem State.chooseFrameOrMark_frame (s : State) (p : TrunkId):
    (s.chooseFrameOrMark p).pending = s.pending ∧ (s.chooseFrameOrMark p).hold = s.hold ∧ (s.chooseFrameOrMark p).resetNLow =
    s.resetNLow ∧ (s.chooseFrameOrMark p).time = s.time ∧ (s.chooseFrameOrMark p).nodes = s.nodes ∧ (s.chooseFrameOrMark
    p).lastNode = s.lastNode ∧ (s.chooseFrameOrMark p).intake = s.intake ∧ (s.chooseFrameOrMark p).streams = s.streams ∧
    (s.chooseFrameOrMark p).freeRows = s.freeRows ∧ (s.chooseFrameOrMark p).cells = s.cells ∧ (s.chooseFrameOrMark p).freeCells
    = s.freeCells ∧ (s.chooseFrameOrMark p).lastTrunk = s.lastTrunk ∧ (s.chooseFrameOrMark p).softPending = s.softPending ∧
    (s.chooseFrameOrMark p).log = s.log ∧ (s.chooseFrameOrMark p).alertMask = s.alertMask ∧ (s.chooseFrameOrMark p).cause =
    s.cause ∧ (s.chooseFrameOrMark p).softCount = s.softCount ∧ (s.chooseFrameOrMark p).draws = s.draws ∧ (∀ j,
    (s.chooseFrameOrMark p).node j = s.node j) ∧ (∀ j, (s.chooseFrameOrMark p).stream j = s.stream j) ∧ (∀ j,
    (s.chooseFrameOrMark p).cell j = s.cell j) := by
  unfold State.chooseFrameOrMark
  (repeat' split) <;> simp

@[simp] theorem State.choose_frame (s : State) (p : TrunkId):
    (s.choose p).pending = s.pending ∧ (s.choose p).hold = s.hold ∧ (s.choose p).resetNLow = s.resetNLow ∧ (s.choose p).time =
    s.time ∧ (s.choose p).nodes = s.nodes ∧ (s.choose p).lastNode = s.lastNode ∧ (s.choose p).intake = s.intake ∧ (s.choose
    p).streams = s.streams ∧ (s.choose p).freeRows = s.freeRows ∧ (s.choose p).cells = s.cells ∧ (s.choose p).freeCells =
    s.freeCells ∧ (s.choose p).lastTrunk = s.lastTrunk ∧ (s.choose p).softPending = s.softPending ∧ (s.choose p).log = s.log ∧
    (s.choose p).alertMask = s.alertMask ∧ (s.choose p).cause = s.cause ∧ (s.choose p).softCount = s.softCount ∧ (s.choose
    p).draws = s.draws ∧ (∀ j, (s.choose p).node j = s.node j) ∧ (∀ j, (s.choose p).stream j = s.stream j) ∧ (∀ j, (s.choose
    p).cell j = s.cell j) := by
  unfold State.choose
  (repeat' split) <;> simp

@[simp] theorem State.settleWait_frame (s : State) (was : Bool) (p : TrunkId):
    (s.settleWait was p).pending = s.pending ∧ (s.settleWait was p).hold = s.hold ∧ (s.settleWait was p).resetNLow = s.resetNLow
    ∧ (s.settleWait was p).time = s.time ∧ (s.settleWait was p).nodes = s.nodes ∧ (s.settleWait was p).lastNode = s.lastNode ∧
    (s.settleWait was p).intake = s.intake ∧ (s.settleWait was p).streams = s.streams ∧ (s.settleWait was p).groups = s.groups ∧
    (s.settleWait was p).freeRows = s.freeRows ∧ (s.settleWait was p).cells = s.cells ∧ (s.settleWait was p).freeCells =
    s.freeCells ∧ (s.settleWait was p).lastTrunk = s.lastTrunk ∧ (s.settleWait was p).softPending = s.softPending ∧
    (s.settleWait was p).log = s.log ∧ (s.settleWait was p).alertMask = s.alertMask ∧ (s.settleWait was p).cause = s.cause ∧
    (s.settleWait was p).softCount = s.softCount ∧ (s.settleWait was p).draws = s.draws ∧ (∀ j, (s.settleWait was p).node j =
    s.node j) ∧ (∀ j, (s.settleWait was p).stream j = s.stream j) ∧ (∀ j, (s.settleWait was p).group j = s.group j) ∧ (∀ j,
    (s.settleWait was p).cell j = s.cell j) := by
  unfold State.settleWait
  (repeat' split) <;> simp

@[simp] theorem State.dropRefs_frame (s : State) (entries : List Entry):
    (s.dropRefs entries).pending = s.pending ∧ (s.dropRefs entries).hold = s.hold ∧ (s.dropRefs entries).resetNLow = s.resetNLow
    ∧ (s.dropRefs entries).time = s.time ∧ (s.dropRefs entries).nodes = s.nodes ∧ (s.dropRefs entries).lastNode = s.lastNode ∧
    (s.dropRefs entries).intake = s.intake ∧ (s.dropRefs entries).groups = s.groups ∧ (s.dropRefs entries).freeRows = s.freeRows
    ∧ (s.dropRefs entries).cells = s.cells ∧ (s.dropRefs entries).freeCells = s.freeCells ∧ (s.dropRefs entries).trunks =
    s.trunks ∧ (s.dropRefs entries).lastTrunk = s.lastTrunk ∧ (s.dropRefs entries).softPending = s.softPending ∧ (s.dropRefs
    entries).log = s.log ∧ (s.dropRefs entries).alertMask = s.alertMask ∧ (s.dropRefs entries).cause = s.cause ∧ (s.dropRefs
    entries).softCount = s.softCount ∧ (s.dropRefs entries).draws = s.draws ∧ (∀ j, (s.dropRefs entries).node j = s.node j) ∧ (∀
    j, (s.dropRefs entries).group j = s.group j) ∧ (∀ j, (s.dropRefs entries).trunk j = s.trunk j) ∧ (∀ j, (s.dropRefs
    entries).cell j = s.cell j) := by
  unfold State.dropRefs
  induction entries generalizing s with
  | nil => simp
  | cons x xs ih => simp only [List.foldl_cons, ih]; simp

@[simp] theorem State.addRefs_frame (s : State) (entries : List Entry):
    (s.addRefs entries).pending = s.pending ∧ (s.addRefs entries).hold = s.hold ∧ (s.addRefs entries).resetNLow = s.resetNLow ∧
    (s.addRefs entries).time = s.time ∧ (s.addRefs entries).nodes = s.nodes ∧ (s.addRefs entries).lastNode = s.lastNode ∧
    (s.addRefs entries).intake = s.intake ∧ (s.addRefs entries).groups = s.groups ∧ (s.addRefs entries).freeRows = s.freeRows ∧
    (s.addRefs entries).cells = s.cells ∧ (s.addRefs entries).freeCells = s.freeCells ∧ (s.addRefs entries).trunks = s.trunks ∧
    (s.addRefs entries).lastTrunk = s.lastTrunk ∧ (s.addRefs entries).softPending = s.softPending ∧ (s.addRefs entries).log =
    s.log ∧ (s.addRefs entries).alertMask = s.alertMask ∧ (s.addRefs entries).cause = s.cause ∧ (s.addRefs entries).softCount =
    s.softCount ∧ (s.addRefs entries).draws = s.draws ∧ (∀ j, (s.addRefs entries).node j = s.node j) ∧ (∀ j, (s.addRefs
    entries).group j = s.group j) ∧ (∀ j, (s.addRefs entries).trunk j = s.trunk j) ∧ (∀ j, (s.addRefs entries).cell j = s.cell
    j) := by
  unfold State.addRefs
  induction entries generalizing s with
  | nil => simp
  | cons x xs ih => simp only [List.foldl_cons, ih]; simp

@[simp] theorem State.removeHead_frame (s : State) (g : GroupId) (r : FrameRecord) (rs : List FrameRecord):
    (s.removeHead g r rs).pending = s.pending ∧ (s.removeHead g r rs).hold = s.hold ∧ (s.removeHead g r rs).resetNLow =
    s.resetNLow ∧ (s.removeHead g r rs).time = s.time ∧ (s.removeHead g r rs).nodes = s.nodes ∧ (s.removeHead g r rs).lastNode =
    s.lastNode ∧ (s.removeHead g r rs).intake = s.intake ∧ (s.removeHead g r rs).freeRows = s.freeRows ∧ (s.removeHead g r
    rs).cells = s.cells ∧ (s.removeHead g r rs).trunks = s.trunks ∧ (s.removeHead g r rs).lastTrunk = s.lastTrunk ∧
    (s.removeHead g r rs).softPending = s.softPending ∧ (s.removeHead g r rs).log = s.log ∧ (s.removeHead g r rs).alertMask =
    s.alertMask ∧ (s.removeHead g r rs).cause = s.cause ∧ (s.removeHead g r rs).softCount = s.softCount ∧ (s.removeHead g r
    rs).draws = s.draws ∧ (∀ j, (s.removeHead g r rs).node j = s.node j) ∧ (∀ j, (s.removeHead g r rs).trunk j = s.trunk j) ∧ (∀
    j, (s.removeHead g r rs).cell j = s.cell j) := by
  simp [State.removeHead]

@[simp] theorem State.updateHold_frame (s : State) (g : GroupId) (e : Entry):
    (s.updateHold g e).pending = s.pending ∧ (s.updateHold g e).hold = s.hold ∧ (s.updateHold g e).resetNLow = s.resetNLow ∧
    (s.updateHold g e).time = s.time ∧ (s.updateHold g e).nodes = s.nodes ∧ (s.updateHold g e).lastNode = s.lastNode ∧
    (s.updateHold g e).intake = s.intake ∧ (s.updateHold g e).groups = s.groups ∧ (s.updateHold g e).freeRows = s.freeRows ∧
    (s.updateHold g e).cells = s.cells ∧ (s.updateHold g e).freeCells = s.freeCells ∧ (s.updateHold g e).trunks = s.trunks ∧
    (s.updateHold g e).lastTrunk = s.lastTrunk ∧ (s.updateHold g e).softPending = s.softPending ∧ (s.updateHold g e).log = s.log
    ∧ (s.updateHold g e).alertMask = s.alertMask ∧ (s.updateHold g e).cause = s.cause ∧ (s.updateHold g e).softCount =
    s.softCount ∧ (s.updateHold g e).draws = s.draws ∧ (∀ j, (s.updateHold g e).node j = s.node j) ∧ (∀ j, (s.updateHold g
    e).group j = s.group j) ∧ (∀ j, (s.updateHold g e).trunk j = s.trunk j) ∧ (∀ j, (s.updateHold g e).cell j = s.cell j) := by
  unfold State.updateHold
  (repeat' split) <;> simp

@[simp] theorem State.handAttempt_frame (s : State) (g : GroupId):
    (s.handAttempt g).pending = s.pending ∧ (s.handAttempt g).hold = s.hold ∧ (s.handAttempt g).resetNLow = s.resetNLow ∧
    (s.handAttempt g).time = s.time ∧ (s.handAttempt g).nodes = s.nodes ∧ (s.handAttempt g).lastNode = s.lastNode ∧
    (s.handAttempt g).intake = s.intake ∧ (s.handAttempt g).streams = s.streams ∧ (s.handAttempt g).freeRows = s.freeRows ∧
    (s.handAttempt g).cells = s.cells ∧ (s.handAttempt g).freeCells = s.freeCells ∧ (s.handAttempt g).trunks = s.trunks ∧
    (s.handAttempt g).lastTrunk = s.lastTrunk ∧ (s.handAttempt g).softPending = s.softPending ∧ (s.handAttempt g).log = s.log ∧
    (s.handAttempt g).alertMask = s.alertMask ∧ (s.handAttempt g).cause = s.cause ∧ (s.handAttempt g).softCount = s.softCount ∧
    (s.handAttempt g).draws = s.draws ∧ (∀ j, (s.handAttempt g).node j = s.node j) ∧ (∀ j, (s.handAttempt g).stream j = s.stream
    j) ∧ (∀ j, (s.handAttempt g).trunk j = s.trunk j) ∧ (∀ j, (s.handAttempt g).cell j = s.cell j) := by
  simp [State.handAttempt]

@[simp] theorem State.afterLeaving_frame (s : State) (g : GroupId):
    (s.afterLeaving g).pending = s.pending ∧ (s.afterLeaving g).hold = s.hold ∧ (s.afterLeaving g).resetNLow = s.resetNLow ∧
    (s.afterLeaving g).time = s.time ∧ (s.afterLeaving g).nodes = s.nodes ∧ (s.afterLeaving g).lastNode = s.lastNode ∧
    (s.afterLeaving g).intake = s.intake ∧ (s.afterLeaving g).freeRows = s.freeRows ∧ (s.afterLeaving g).cells = s.cells ∧
    (s.afterLeaving g).freeCells = s.freeCells ∧ (s.afterLeaving g).trunks = s.trunks ∧ (s.afterLeaving g).lastTrunk =
    s.lastTrunk ∧ (s.afterLeaving g).softPending = s.softPending ∧ (s.afterLeaving g).log = s.log ∧ (s.afterLeaving g).alertMask
    = s.alertMask ∧ (s.afterLeaving g).cause = s.cause ∧ (s.afterLeaving g).softCount = s.softCount ∧ (s.afterLeaving g).draws =
    s.draws ∧ (∀ j, (s.afterLeaving g).node j = s.node j) ∧ (∀ j, (s.afterLeaving g).trunk j = s.trunk j) ∧ (∀ j,
    (s.afterLeaving g).cell j = s.cell j) := by
  unfold State.afterLeaving
  (repeat' split) <;> simp

@[simp] theorem State.trunkEnterUp_frame (s : State) (p : TrunkId):
    (s.trunkEnterUp p).pending = s.pending ∧ (s.trunkEnterUp p).hold = s.hold ∧ (s.trunkEnterUp p).resetNLow = s.resetNLow ∧
    (s.trunkEnterUp p).time = s.time ∧ (s.trunkEnterUp p).nodes = s.nodes ∧ (s.trunkEnterUp p).lastNode = s.lastNode ∧
    (s.trunkEnterUp p).intake = s.intake ∧ (s.trunkEnterUp p).streams = s.streams ∧ (s.trunkEnterUp p).freeRows = s.freeRows ∧
    (s.trunkEnterUp p).cells = s.cells ∧ (s.trunkEnterUp p).freeCells = s.freeCells ∧ (s.trunkEnterUp p).lastTrunk = s.lastTrunk
    ∧ (s.trunkEnterUp p).softPending = s.softPending ∧ (s.trunkEnterUp p).log = s.log ∧ (s.trunkEnterUp p).alertMask =
    s.alertMask ∧ (s.trunkEnterUp p).cause = s.cause ∧ (s.trunkEnterUp p).softCount = s.softCount ∧ (s.trunkEnterUp p).draws =
    s.draws ∧ (∀ j, (s.trunkEnterUp p).node j = s.node j) ∧ (∀ j, (s.trunkEnterUp p).stream j = s.stream j) ∧ (∀ j,
    (s.trunkEnterUp p).cell j = s.cell j) := by
  simp [State.trunkEnterUp]

@[simp] theorem State.loseFrame_frame (s : State) (p : TrunkId) (r : FrameRecord) (rs : List FrameRecord):
    (s.loseFrame p r rs).pending = s.pending ∧ (s.loseFrame p r rs).hold = s.hold ∧ (s.loseFrame p r rs).resetNLow = s.resetNLow
    ∧ (s.loseFrame p r rs).time = s.time ∧ (s.loseFrame p r rs).nodes = s.nodes ∧ (s.loseFrame p r rs).lastNode = s.lastNode ∧
    (s.loseFrame p r rs).intake = s.intake ∧ (s.loseFrame p r rs).freeRows = s.freeRows ∧ (s.loseFrame p r rs).cells = s.cells ∧
    (s.loseFrame p r rs).trunks = s.trunks ∧ (s.loseFrame p r rs).lastTrunk = s.lastTrunk ∧ (s.loseFrame p r rs).softPending =
    s.softPending ∧ (s.loseFrame p r rs).log = s.log ∧ (s.loseFrame p r rs).alertMask = s.alertMask ∧ (s.loseFrame p r rs).cause
    = s.cause ∧ (s.loseFrame p r rs).softCount = s.softCount ∧ (s.loseFrame p r rs).draws = s.draws ∧ (∀ j, (s.loseFrame p r
    rs).node j = s.node j) ∧ (∀ j, (s.loseFrame p r rs).trunk j = s.trunk j) ∧ (∀ j, (s.loseFrame p r rs).cell j = s.cell j) := by
  simp [State.loseFrame]

@[simp] theorem State.logLoss_frame (s : State) (p : TrunkId) (n : Instant):
    (s.logLoss p n).pending = s.pending ∧ (s.logLoss p n).hold = s.hold ∧ (s.logLoss p n).resetNLow = s.resetNLow ∧ (s.logLoss p
    n).time = s.time ∧ (s.logLoss p n).nodes = s.nodes ∧ (s.logLoss p n).lastNode = s.lastNode ∧ (s.logLoss p n).intake =
    s.intake ∧ (s.logLoss p n).streams = s.streams ∧ (s.logLoss p n).groups = s.groups ∧ (s.logLoss p n).freeRows = s.freeRows ∧
    (s.logLoss p n).cells = s.cells ∧ (s.logLoss p n).freeCells = s.freeCells ∧ (s.logLoss p n).trunks = s.trunks ∧ (s.logLoss p
    n).lastTrunk = s.lastTrunk ∧ (s.logLoss p n).softPending = s.softPending ∧ (s.logLoss p n).alertMask = s.alertMask ∧
    (s.logLoss p n).cause = s.cause ∧ (s.logLoss p n).softCount = s.softCount ∧ (∀ j, (s.logLoss p n).node j = s.node j) ∧ (∀ j,
    (s.logLoss p n).stream j = s.stream j) ∧ (∀ j, (s.logLoss p n).group j = s.group j) ∧ (∀ j, (s.logLoss p n).trunk j =
    s.trunk j) ∧ (∀ j, (s.logLoss p n).cell j = s.cell j) := by
  unfold State.logLoss
  dsimp only
  split <;> simp [State.node, State.stream, State.group, State.trunk, State.cell]

/-! ### Closes -/

@[simp] theorem State.stepReal_frame (s : State) (g : GroupId) (n : Instant) (i : StreamId):
    (s.stepReal g n i).pending = s.pending ∧ (s.stepReal g n i).hold = s.hold ∧ (s.stepReal g n i).resetNLow = s.resetNLow ∧
    (s.stepReal g n i).time = s.time ∧ (s.stepReal g n i).nodes = s.nodes ∧ (s.stepReal g n i).lastNode = s.lastNode ∧
    (s.stepReal g n i).intake = s.intake ∧ (s.stepReal g n i).groups = s.groups ∧ (s.stepReal g n i).freeRows = s.freeRows ∧
    (s.stepReal g n i).cells = s.cells ∧ (s.stepReal g n i).freeCells = s.freeCells ∧ (s.stepReal g n i).trunks = s.trunks ∧
    (s.stepReal g n i).lastTrunk = s.lastTrunk ∧ (s.stepReal g n i).softPending = s.softPending ∧ (s.stepReal g n i).alertMask =
    s.alertMask ∧ (s.stepReal g n i).cause = s.cause ∧ (s.stepReal g n i).softCount = s.softCount ∧ (s.stepReal g n i).draws =
    s.draws ∧ (∀ j, (s.stepReal g n i).node j = s.node j) ∧ (∀ j, (s.stepReal g n i).group j = s.group j) ∧ (∀ j, (s.stepReal g
    n i).trunk j = s.trunk j) ∧ (∀ j, (s.stepReal g n i).cell j = s.cell j) := by
  unfold State.stepReal
  dsimp only
  split <;> simp

@[simp] theorem State.stepFill_frame (s : State) (g : GroupId) (n : Instant) (i : StreamId):
    (s.stepFill g n i).pending = s.pending ∧ (s.stepFill g n i).hold = s.hold ∧ (s.stepFill g n i).resetNLow = s.resetNLow ∧
    (s.stepFill g n i).time = s.time ∧ (s.stepFill g n i).nodes = s.nodes ∧ (s.stepFill g n i).lastNode = s.lastNode ∧
    (s.stepFill g n i).intake = s.intake ∧ (s.stepFill g n i).groups = s.groups ∧ (s.stepFill g n i).freeRows = s.freeRows ∧
    (s.stepFill g n i).cells = s.cells ∧ (s.stepFill g n i).freeCells = s.freeCells ∧ (s.stepFill g n i).trunks = s.trunks ∧
    (s.stepFill g n i).lastTrunk = s.lastTrunk ∧ (s.stepFill g n i).softPending = s.softPending ∧ (s.stepFill g n i).alertMask =
    s.alertMask ∧ (s.stepFill g n i).cause = s.cause ∧ (s.stepFill g n i).softCount = s.softCount ∧ (s.stepFill g n i).draws =
    s.draws ∧ (∀ j, (s.stepFill g n i).node j = s.node j) ∧ (∀ j, (s.stepFill g n i).group j = s.group j) ∧ (∀ j, (s.stepFill g
    n i).trunk j = s.trunk j) ∧ (∀ j, (s.stepFill g n i).cell j = s.cell j) := by
  unfold State.stepFill
  dsimp only
  split <;> simp

@[simp] theorem State.stepMonitor_frame (s : State) (g : GroupId) (n : Instant) (e : Entry):
    (s.stepMonitor g n e).pending = s.pending ∧ (s.stepMonitor g n e).hold = s.hold ∧ (s.stepMonitor g n e).resetNLow =
    s.resetNLow ∧ (s.stepMonitor g n e).time = s.time ∧ (s.stepMonitor g n e).nodes = s.nodes ∧ (s.stepMonitor g n e).lastNode =
    s.lastNode ∧ (s.stepMonitor g n e).intake = s.intake ∧ (s.stepMonitor g n e).groups = s.groups ∧ (s.stepMonitor g n
    e).freeRows = s.freeRows ∧ (s.stepMonitor g n e).cells = s.cells ∧ (s.stepMonitor g n e).freeCells = s.freeCells ∧
    (s.stepMonitor g n e).trunks = s.trunks ∧ (s.stepMonitor g n e).lastTrunk = s.lastTrunk ∧ (s.stepMonitor g n e).softPending
    = s.softPending ∧ (s.stepMonitor g n e).alertMask = s.alertMask ∧ (s.stepMonitor g n e).cause = s.cause ∧ (s.stepMonitor g n
    e).softCount = s.softCount ∧ (s.stepMonitor g n e).draws = s.draws ∧ (∀ j, (s.stepMonitor g n e).node j = s.node j) ∧ (∀ j,
    (s.stepMonitor g n e).group j = s.group j) ∧ (∀ j, (s.stepMonitor g n e).trunk j = s.trunk j) ∧ (∀ j, (s.stepMonitor g n
    e).cell j = s.cell j) := by
  unfold State.stepMonitor
  (repeat' split) <;> simp

@[simp] theorem State.stepMonitorList_frame (s : State) (g : GroupId) (n : Instant) (entries : List Entry):
    (entries.foldl (fun t e => t.stepMonitor g n e) s).pending = s.pending ∧ (entries.foldl (fun t e => t.stepMonitor g n e)
    s).hold = s.hold ∧ (entries.foldl (fun t e => t.stepMonitor g n e) s).resetNLow = s.resetNLow ∧ (entries.foldl (fun t e =>
    t.stepMonitor g n e) s).time = s.time ∧ (entries.foldl (fun t e => t.stepMonitor g n e) s).nodes = s.nodes ∧ (entries.foldl
    (fun t e => t.stepMonitor g n e) s).lastNode = s.lastNode ∧ (entries.foldl (fun t e => t.stepMonitor g n e) s).intake =
    s.intake ∧ (entries.foldl (fun t e => t.stepMonitor g n e) s).groups = s.groups ∧ (entries.foldl (fun t e => t.stepMonitor g
    n e) s).freeRows = s.freeRows ∧ (entries.foldl (fun t e => t.stepMonitor g n e) s).cells = s.cells ∧ (entries.foldl (fun t e
    => t.stepMonitor g n e) s).freeCells = s.freeCells ∧ (entries.foldl (fun t e => t.stepMonitor g n e) s).trunks = s.trunks ∧
    (entries.foldl (fun t e => t.stepMonitor g n e) s).lastTrunk = s.lastTrunk ∧ (entries.foldl (fun t e => t.stepMonitor g n e)
    s).softPending = s.softPending ∧ (entries.foldl (fun t e => t.stepMonitor g n e) s).alertMask = s.alertMask ∧ (entries.foldl
    (fun t e => t.stepMonitor g n e) s).cause = s.cause ∧ (entries.foldl (fun t e => t.stepMonitor g n e) s).softCount =
    s.softCount ∧ (entries.foldl (fun t e => t.stepMonitor g n e) s).draws = s.draws ∧ (∀ j, (entries.foldl (fun t e =>
    t.stepMonitor g n e) s).node j = s.node j) ∧ (∀ j, (entries.foldl (fun t e => t.stepMonitor g n e) s).group j = s.group j) ∧
    (∀ j, (entries.foldl (fun t e => t.stepMonitor g n e) s).trunk j = s.trunk j) ∧ (∀ j, (entries.foldl (fun t e =>
    t.stepMonitor g n e) s).cell j = s.cell j) := by
  induction entries generalizing s with
  | nil => simp
  | cons x xs ih => simp only [List.foldl_cons, ih]; simp

@[simp] theorem State.stepMonitors_frame (s : State) (g : GroupId) (n : Instant) (entries : List Entry):
    (s.stepMonitors g n entries).pending = s.pending ∧ (s.stepMonitors g n entries).hold = s.hold ∧ (s.stepMonitors g n
    entries).resetNLow = s.resetNLow ∧ (s.stepMonitors g n entries).time = s.time ∧ (s.stepMonitors g n entries).nodes = s.nodes
    ∧ (s.stepMonitors g n entries).lastNode = s.lastNode ∧ (s.stepMonitors g n entries).intake = s.intake ∧ (s.stepMonitors g n
    entries).groups = s.groups ∧ (s.stepMonitors g n entries).freeRows = s.freeRows ∧ (s.stepMonitors g n entries).cells =
    s.cells ∧ (s.stepMonitors g n entries).freeCells = s.freeCells ∧ (s.stepMonitors g n entries).trunks = s.trunks ∧
    (s.stepMonitors g n entries).lastTrunk = s.lastTrunk ∧ (s.stepMonitors g n entries).softPending = s.softPending ∧
    (s.stepMonitors g n entries).alertMask = s.alertMask ∧ (s.stepMonitors g n entries).cause = s.cause ∧ (s.stepMonitors g n
    entries).softCount = s.softCount ∧ (∀ j, (s.stepMonitors g n entries).node j = s.node j) ∧ (∀ j, (s.stepMonitors g n
    entries).group j = s.group j) ∧ (∀ j, (s.stepMonitors g n entries).trunk j = s.trunk j) ∧ (∀ j, (s.stepMonitors g n
    entries).cell j = s.cell j) := by
  simp [State.stepMonitors, State.node, State.group, State.trunk, State.cell]

@[simp] theorem State.placeRecord_frame (s : State) (g : GroupId) (r : FrameRecord):
    (s.placeRecord g r).pending = s.pending ∧ (s.placeRecord g r).hold = s.hold ∧ (s.placeRecord g r).resetNLow = s.resetNLow ∧
    (s.placeRecord g r).time = s.time ∧ (s.placeRecord g r).nodes = s.nodes ∧ (s.placeRecord g r).lastNode = s.lastNode ∧
    (s.placeRecord g r).intake = s.intake ∧ (s.placeRecord g r).freeRows = s.freeRows ∧ (s.placeRecord g r).cells = s.cells ∧
    (s.placeRecord g r).freeCells = s.freeCells ∧ (s.placeRecord g r).trunks = s.trunks ∧ (s.placeRecord g r).lastTrunk =
    s.lastTrunk ∧ (s.placeRecord g r).softPending = s.softPending ∧ (s.placeRecord g r).alertMask = s.alertMask ∧ (s.placeRecord
    g r).cause = s.cause ∧ (s.placeRecord g r).softCount = s.softCount ∧ (∀ j, (s.placeRecord g r).node j = s.node j) ∧ (∀ j,
    (s.placeRecord g r).trunk j = s.trunk j) ∧ (∀ j, (s.placeRecord g r).cell j = s.cell j) := by
  simp [State.placeRecord]

@[simp] theorem State.closeRow_frame (s : State) (g : GroupId) (r : Row) (c : CloseReason):
    (s.closeRow g r c).pending = s.pending ∧ (s.closeRow g r c).hold = s.hold ∧ (s.closeRow g r c).resetNLow = s.resetNLow ∧
    (s.closeRow g r c).time = s.time ∧ (s.closeRow g r c).nodes = s.nodes ∧ (s.closeRow g r c).lastNode = s.lastNode ∧
    (s.closeRow g r c).intake = s.intake ∧ (s.closeRow g r c).cells = s.cells ∧ (s.closeRow g r c).freeCells = s.freeCells ∧
    (s.closeRow g r c).lastTrunk = s.lastTrunk ∧ (s.closeRow g r c).softPending = s.softPending ∧ (s.closeRow g r c).alertMask =
    s.alertMask ∧ (s.closeRow g r c).cause = s.cause ∧ (s.closeRow g r c).softCount = s.softCount ∧ (∀ j, (s.closeRow g r
    c).node j = s.node j) ∧ (∀ j, (s.closeRow g r c).cell j = s.cell j) := by
  simp [State.closeRow]

@[simp] theorem State.emitInstant_frame (s : State) (g : GroupId) (n : Instant):
    (s.emitInstant g n).pending = s.pending ∧ (s.emitInstant g n).hold = s.hold ∧ (s.emitInstant g n).resetNLow = s.resetNLow ∧
    (s.emitInstant g n).time = s.time ∧ (s.emitInstant g n).nodes = s.nodes ∧ (s.emitInstant g n).lastNode = s.lastNode ∧
    (s.emitInstant g n).intake = s.intake ∧ (s.emitInstant g n).freeRows = s.freeRows ∧ (s.emitInstant g n).cells = s.cells ∧
    (s.emitInstant g n).freeCells = s.freeCells ∧ (s.emitInstant g n).lastTrunk = s.lastTrunk ∧ (s.emitInstant g n).softPending
    = s.softPending ∧ (s.emitInstant g n).alertMask = s.alertMask ∧ (s.emitInstant g n).cause = s.cause ∧ (s.emitInstant g
    n).softCount = s.softCount ∧ (∀ j, (s.emitInstant g n).node j = s.node j) ∧ (∀ j, (s.emitInstant g n).cell j = s.cell j) := by
  simp [State.emitInstant]

@[simp] theorem State.skipInstants_frame (s : State) (g : GroupId) (n : Instant) (len due : Nat):
    (s.skipInstants g n len due).pending = s.pending ∧ (s.skipInstants g n len due).hold = s.hold ∧ (s.skipInstants g n len
    due).resetNLow = s.resetNLow ∧ (s.skipInstants g n len due).time = s.time ∧ (s.skipInstants g n len due).nodes = s.nodes ∧
    (s.skipInstants g n len due).lastNode = s.lastNode ∧ (s.skipInstants g n len due).intake = s.intake ∧ (s.skipInstants g n
    len due).freeRows = s.freeRows ∧ (s.skipInstants g n len due).cells = s.cells ∧ (s.skipInstants g n len due).freeCells =
    s.freeCells ∧ (s.skipInstants g n len due).trunks = s.trunks ∧ (s.skipInstants g n len due).lastTrunk = s.lastTrunk ∧
    (s.skipInstants g n len due).softPending = s.softPending ∧ (s.skipInstants g n len due).log = s.log ∧ (s.skipInstants g n
    len due).alertMask = s.alertMask ∧ (s.skipInstants g n len due).cause = s.cause ∧ (s.skipInstants g n len due).softCount =
    s.softCount ∧ (s.skipInstants g n len due).draws = s.draws ∧ (∀ j, (s.skipInstants g n len due).node j = s.node j) ∧ (∀ j,
    (s.skipInstants g n len due).trunk j = s.trunk j) ∧ (∀ j, (s.skipInstants g n len due).cell j = s.cell j) := by
  simp [State.skipInstants]

@[simp] theorem State.passEmpty_frame (s : State) (g : GroupId) (n : Instant):
    (s.passEmpty g n).pending = s.pending ∧ (s.passEmpty g n).hold = s.hold ∧ (s.passEmpty g n).resetNLow = s.resetNLow ∧
    (s.passEmpty g n).time = s.time ∧ (s.passEmpty g n).nodes = s.nodes ∧ (s.passEmpty g n).lastNode = s.lastNode ∧ (s.passEmpty
    g n).intake = s.intake ∧ (s.passEmpty g n).freeRows = s.freeRows ∧ (s.passEmpty g n).cells = s.cells ∧ (s.passEmpty g
    n).freeCells = s.freeCells ∧ (s.passEmpty g n).lastTrunk = s.lastTrunk ∧ (s.passEmpty g n).softPending = s.softPending ∧
    (s.passEmpty g n).alertMask = s.alertMask ∧ (s.passEmpty g n).cause = s.cause ∧ (s.passEmpty g n).softCount = s.softCount ∧
    (∀ j, (s.passEmpty g n).node j = s.node j) ∧ (∀ j, (s.passEmpty g n).cell j = s.cell j) := by
  unfold State.passEmpty
  (repeat' split) <;> simp

@[simp] theorem State.walk_frame (s : State) (g : GroupId) (fuel : Nat):
    (State.walk g fuel s).pending = s.pending ∧ (State.walk g fuel s).hold = s.hold ∧ (State.walk g fuel s).resetNLow =
    s.resetNLow ∧ (State.walk g fuel s).time = s.time ∧ (State.walk g fuel s).nodes = s.nodes ∧ (State.walk g fuel s).lastNode =
    s.lastNode ∧ (State.walk g fuel s).intake = s.intake ∧ (State.walk g fuel s).cells = s.cells ∧ (State.walk g fuel
    s).freeCells = s.freeCells ∧ (State.walk g fuel s).lastTrunk = s.lastTrunk ∧ (State.walk g fuel s).softPending =
    s.softPending ∧ (State.walk g fuel s).alertMask = s.alertMask ∧ (State.walk g fuel s).cause = s.cause ∧ (State.walk g fuel
    s).softCount = s.softCount ∧ (∀ j, (State.walk g fuel s).node j = s.node j) ∧ (∀ j, (State.walk g fuel s).cell j = s.cell j) := by
  induction fuel generalizing s with
  | zero => simp [State.walk]
  | succ k ih =>
    unfold State.walk
    (repeat' split) <;> simp only [ih] <;> simp

@[simp] theorem State.passEach_frame (s : State) (g : GroupId) (len : Nat):
    (State.passEach g len s).pending = s.pending ∧ (State.passEach g len s).hold = s.hold ∧ (State.passEach g len s).resetNLow =
    s.resetNLow ∧ (State.passEach g len s).time = s.time ∧ (State.passEach g len s).nodes = s.nodes ∧ (State.passEach g len
    s).lastNode = s.lastNode ∧ (State.passEach g len s).intake = s.intake ∧ (State.passEach g len s).freeRows = s.freeRows ∧
    (State.passEach g len s).cells = s.cells ∧ (State.passEach g len s).freeCells = s.freeCells ∧ (State.passEach g len
    s).lastTrunk = s.lastTrunk ∧ (State.passEach g len s).softPending = s.softPending ∧ (State.passEach g len s).alertMask =
    s.alertMask ∧ (State.passEach g len s).cause = s.cause ∧ (State.passEach g len s).softCount = s.softCount ∧ (∀ j,
    (State.passEach g len s).node j = s.node j) ∧ (∀ j, (State.passEach g len s).cell j = s.cell j) := by
  induction len generalizing s with
  | zero => simp [State.passEach]
  | succ k ih =>
    unfold State.passEach
    (repeat' split) <;> simp only [ih] <;> simp

@[simp] theorem State.passRun_frame (s : State) (g : GroupId) (e : Instant) (len : Nat):
    (s.passRun g e len).pending = s.pending ∧ (s.passRun g e len).hold = s.hold ∧ (s.passRun g e len).resetNLow = s.resetNLow ∧
    (s.passRun g e len).time = s.time ∧ (s.passRun g e len).nodes = s.nodes ∧ (s.passRun g e len).lastNode = s.lastNode ∧
    (s.passRun g e len).intake = s.intake ∧ (s.passRun g e len).freeRows = s.freeRows ∧ (s.passRun g e len).cells = s.cells ∧
    (s.passRun g e len).freeCells = s.freeCells ∧ (s.passRun g e len).lastTrunk = s.lastTrunk ∧ (s.passRun g e len).softPending
    = s.softPending ∧ (s.passRun g e len).alertMask = s.alertMask ∧ (s.passRun g e len).cause = s.cause ∧ (s.passRun g e
    len).softCount = s.softCount ∧ (∀ j, (s.passRun g e len).node j = s.node j) ∧ (∀ j, (s.passRun g e len).cell j = s.cell j) := by
  unfold State.passRun
  dsimp only
  split <;> simp

@[simp] theorem State.advanceTo_frame (s : State) (g : GroupId) (target : Instant) (fuel : Nat):
    (State.advanceTo g target fuel s).pending = s.pending ∧ (State.advanceTo g target fuel s).hold = s.hold ∧ (State.advanceTo g
    target fuel s).resetNLow = s.resetNLow ∧ (State.advanceTo g target fuel s).time = s.time ∧ (State.advanceTo g target fuel
    s).nodes = s.nodes ∧ (State.advanceTo g target fuel s).lastNode = s.lastNode ∧ (State.advanceTo g target fuel s).intake =
    s.intake ∧ (State.advanceTo g target fuel s).cells = s.cells ∧ (State.advanceTo g target fuel s).freeCells = s.freeCells ∧
    (State.advanceTo g target fuel s).lastTrunk = s.lastTrunk ∧ (State.advanceTo g target fuel s).softPending = s.softPending ∧
    (State.advanceTo g target fuel s).alertMask = s.alertMask ∧ (State.advanceTo g target fuel s).cause = s.cause ∧
    (State.advanceTo g target fuel s).softCount = s.softCount ∧ (∀ j, (State.advanceTo g target fuel s).node j = s.node j) ∧ (∀
    j, (State.advanceTo g target fuel s).cell j = s.cell j) := by
  induction fuel generalizing s with
  | zero => simp [State.advanceTo]
  | succ k ih =>
    unfold State.advanceTo
    (repeat' split) <;> simp only [ih] <;> simp

/-! ### Arrivals -/

@[simp] theorem State.exhaustCell_frame (s : State) (g : GroupId):
    (s.exhaustCell g).pending = s.pending ∧ (s.exhaustCell g).hold = s.hold ∧ (s.exhaustCell g).resetNLow = s.resetNLow ∧
    (s.exhaustCell g).time = s.time ∧ (s.exhaustCell g).nodes = s.nodes ∧ (s.exhaustCell g).lastNode = s.lastNode ∧
    (s.exhaustCell g).intake = s.intake ∧ (s.exhaustCell g).streams = s.streams ∧ (s.exhaustCell g).freeRows = s.freeRows ∧
    (s.exhaustCell g).cells = s.cells ∧ (s.exhaustCell g).freeCells = s.freeCells ∧ (s.exhaustCell g).trunks = s.trunks ∧
    (s.exhaustCell g).lastTrunk = s.lastTrunk ∧ (s.exhaustCell g).softPending = s.softPending ∧ (s.exhaustCell g).alertMask =
    s.alertMask ∧ (s.exhaustCell g).cause = s.cause ∧ (s.exhaustCell g).softCount = s.softCount ∧ (s.exhaustCell g).draws =
    s.draws ∧ (∀ j, (s.exhaustCell g).node j = s.node j) ∧ (∀ j, (s.exhaustCell g).stream j = s.stream j) ∧ (∀ j, (s.exhaustCell
    g).trunk j = s.trunk j) ∧ (∀ j, (s.exhaustCell g).cell j = s.cell j) := by
  simp [State.exhaustCell]

@[simp] theorem State.exhaustRow_frame (s : State) (g : GroupId):
    (s.exhaustRow g).pending = s.pending ∧ (s.exhaustRow g).hold = s.hold ∧ (s.exhaustRow g).resetNLow = s.resetNLow ∧
    (s.exhaustRow g).time = s.time ∧ (s.exhaustRow g).nodes = s.nodes ∧ (s.exhaustRow g).lastNode = s.lastNode ∧ (s.exhaustRow
    g).intake = s.intake ∧ (s.exhaustRow g).streams = s.streams ∧ (s.exhaustRow g).freeRows = s.freeRows ∧ (s.exhaustRow
    g).cells = s.cells ∧ (s.exhaustRow g).freeCells = s.freeCells ∧ (s.exhaustRow g).trunks = s.trunks ∧ (s.exhaustRow
    g).lastTrunk = s.lastTrunk ∧ (s.exhaustRow g).softPending = s.softPending ∧ (s.exhaustRow g).alertMask = s.alertMask ∧
    (s.exhaustRow g).cause = s.cause ∧ (s.exhaustRow g).softCount = s.softCount ∧ (s.exhaustRow g).draws = s.draws ∧ (∀ j,
    (s.exhaustRow g).node j = s.node j) ∧ (∀ j, (s.exhaustRow g).stream j = s.stream j) ∧ (∀ j, (s.exhaustRow g).trunk j =
    s.trunk j) ∧ (∀ j, (s.exhaustRow g).cell j = s.cell j) := by
  simp [State.exhaustRow]

@[simp] theorem State.attemptIfRipe_frame (s : State) (g : GroupId) (n : Instant):
    (s.attemptIfRipe g n).pending = s.pending ∧ (s.attemptIfRipe g n).hold = s.hold ∧ (s.attemptIfRipe g n).resetNLow =
    s.resetNLow ∧ (s.attemptIfRipe g n).time = s.time ∧ (s.attemptIfRipe g n).nodes = s.nodes ∧ (s.attemptIfRipe g n).lastNode =
    s.lastNode ∧ (s.attemptIfRipe g n).intake = s.intake ∧ (s.attemptIfRipe g n).streams = s.streams ∧ (s.attemptIfRipe g
    n).freeRows = s.freeRows ∧ (s.attemptIfRipe g n).cells = s.cells ∧ (s.attemptIfRipe g n).freeCells = s.freeCells ∧
    (s.attemptIfRipe g n).trunks = s.trunks ∧ (s.attemptIfRipe g n).lastTrunk = s.lastTrunk ∧ (s.attemptIfRipe g n).softPending
    = s.softPending ∧ (s.attemptIfRipe g n).log = s.log ∧ (s.attemptIfRipe g n).alertMask = s.alertMask ∧ (s.attemptIfRipe g
    n).cause = s.cause ∧ (s.attemptIfRipe g n).softCount = s.softCount ∧ (s.attemptIfRipe g n).draws = s.draws ∧ (∀ j,
    (s.attemptIfRipe g n).node j = s.node j) ∧ (∀ j, (s.attemptIfRipe g n).stream j = s.stream j) ∧ (∀ j, (s.attemptIfRipe g
    n).trunk j = s.trunk j) ∧ (∀ j, (s.attemptIfRipe g n).cell j = s.cell j) := by
  unfold State.attemptIfRipe
  (repeat' split) <;> simp

@[simp] theorem State.store_frame (s : State) (g : GroupId) (n : Instant) (k : Nat) (m : SampleMsg):
    (s.store g n k m).pending = s.pending ∧ (s.store g n k m).hold = s.hold ∧ (s.store g n k m).resetNLow = s.resetNLow ∧
    (s.store g n k m).time = s.time ∧ (s.store g n k m).nodes = s.nodes ∧ (s.store g n k m).lastNode = s.lastNode ∧ (s.store g n
    k m).intake = s.intake ∧ (s.store g n k m).freeRows = s.freeRows ∧ (s.store g n k m).trunks = s.trunks ∧ (s.store g n k
    m).lastTrunk = s.lastTrunk ∧ (s.store g n k m).softPending = s.softPending ∧ (s.store g n k m).alertMask = s.alertMask ∧
    (s.store g n k m).cause = s.cause ∧ (s.store g n k m).softCount = s.softCount ∧ (s.store g n k m).draws = s.draws ∧ (∀ j,
    (s.store g n k m).node j = s.node j) ∧ (∀ j, (s.store g n k m).trunk j = s.trunk j) := by
  unfold State.store
  split <;> simp [State.node, State.trunk]

@[simp] theorem State.openAndStore_frame (s : State) (g : GroupId) (n : Instant) (k : Nat) (gen : Generation) (m : SampleMsg):
    (s.openAndStore g n k gen m).pending = s.pending ∧ (s.openAndStore g n k gen m).hold = s.hold ∧ (s.openAndStore g n k gen
    m).resetNLow = s.resetNLow ∧ (s.openAndStore g n k gen m).time = s.time ∧ (s.openAndStore g n k gen m).nodes = s.nodes ∧
    (s.openAndStore g n k gen m).lastNode = s.lastNode ∧ (s.openAndStore g n k gen m).intake = s.intake ∧ (s.openAndStore g n k
    gen m).trunks = s.trunks ∧ (s.openAndStore g n k gen m).lastTrunk = s.lastTrunk ∧ (s.openAndStore g n k gen m).softPending =
    s.softPending ∧ (s.openAndStore g n k gen m).alertMask = s.alertMask ∧ (s.openAndStore g n k gen m).cause = s.cause ∧
    (s.openAndStore g n k gen m).softCount = s.softCount ∧ (s.openAndStore g n k gen m).draws = s.draws ∧ (∀ j, (s.openAndStore
    g n k gen m).node j = s.node j) ∧ (∀ j, (s.openAndStore g n k gen m).trunk j = s.trunk j) := by
  unfold State.openAndStore
  split <;> simp [State.node, State.trunk]

@[simp] theorem State.takeDuplicate_frame (s : State) (c : CellId) (m : SampleMsg):
    (s.takeDuplicate c m).pending = s.pending ∧ (s.takeDuplicate c m).hold = s.hold ∧ (s.takeDuplicate c m).resetNLow =
    s.resetNLow ∧ (s.takeDuplicate c m).time = s.time ∧ (s.takeDuplicate c m).nodes = s.nodes ∧ (s.takeDuplicate c m).lastNode =
    s.lastNode ∧ (s.takeDuplicate c m).intake = s.intake ∧ (s.takeDuplicate c m).groups = s.groups ∧ (s.takeDuplicate c
    m).freeRows = s.freeRows ∧ (s.takeDuplicate c m).freeCells = s.freeCells ∧ (s.takeDuplicate c m).trunks = s.trunks ∧
    (s.takeDuplicate c m).lastTrunk = s.lastTrunk ∧ (s.takeDuplicate c m).softPending = s.softPending ∧ (s.takeDuplicate c
    m).log = s.log ∧ (s.takeDuplicate c m).alertMask = s.alertMask ∧ (s.takeDuplicate c m).cause = s.cause ∧ (s.takeDuplicate c
    m).softCount = s.softCount ∧ (s.takeDuplicate c m).draws = s.draws ∧ (∀ j, (s.takeDuplicate c m).node j = s.node j) ∧ (∀ j,
    (s.takeDuplicate c m).group j = s.group j) ∧ (∀ j, (s.takeDuplicate c m).trunk j = s.trunk j) := by
  unfold State.takeDuplicate
  (repeat' split) <;> simp

@[simp] theorem State.placeMessage_frame (s : State) (g : GroupId) (n : Instant) (k : Nat) (gen : Generation) (m : SampleMsg):
    (s.placeMessage g n k gen m).pending = s.pending ∧ (s.placeMessage g n k gen m).hold = s.hold ∧ (s.placeMessage g n k gen
    m).resetNLow = s.resetNLow ∧ (s.placeMessage g n k gen m).time = s.time ∧ (s.placeMessage g n k gen m).nodes = s.nodes ∧
    (s.placeMessage g n k gen m).lastNode = s.lastNode ∧ (s.placeMessage g n k gen m).intake = s.intake ∧ (s.placeMessage g n k
    gen m).trunks = s.trunks ∧ (s.placeMessage g n k gen m).lastTrunk = s.lastTrunk ∧ (s.placeMessage g n k gen m).softPending =
    s.softPending ∧ (s.placeMessage g n k gen m).alertMask = s.alertMask ∧ (s.placeMessage g n k gen m).cause = s.cause ∧
    (s.placeMessage g n k gen m).softCount = s.softCount ∧ (s.placeMessage g n k gen m).draws = s.draws ∧ (∀ j, (s.placeMessage
    g n k gen m).node j = s.node j) ∧ (∀ j, (s.placeMessage g n k gen m).trunk j = s.trunk j) := by
  unfold State.placeMessage
  (repeat' split) <;> simp

@[simp] theorem State.discardLate_frame (s : State) (g : GroupId) (i : StreamId):
    (s.discardLate g i).pending = s.pending ∧ (s.discardLate g i).hold = s.hold ∧ (s.discardLate g i).resetNLow = s.resetNLow ∧
    (s.discardLate g i).time = s.time ∧ (s.discardLate g i).nodes = s.nodes ∧ (s.discardLate g i).lastNode = s.lastNode ∧
    (s.discardLate g i).intake = s.intake ∧ (s.discardLate g i).freeRows = s.freeRows ∧ (s.discardLate g i).cells = s.cells ∧
    (s.discardLate g i).freeCells = s.freeCells ∧ (s.discardLate g i).trunks = s.trunks ∧ (s.discardLate g i).lastTrunk =
    s.lastTrunk ∧ (s.discardLate g i).softPending = s.softPending ∧ (s.discardLate g i).alertMask = s.alertMask ∧ (s.discardLate
    g i).cause = s.cause ∧ (s.discardLate g i).softCount = s.softCount ∧ (s.discardLate g i).draws = s.draws ∧ (∀ j,
    (s.discardLate g i).node j = s.node j) ∧ (∀ j, (s.discardLate g i).trunk j = s.trunk j) ∧ (∀ j, (s.discardLate g i).cell j =
    s.cell j) := by
  unfold State.discardLate
  dsimp only
  split <;> simp

@[simp] theorem State.discardEarly_frame (s : State) (g : GroupId) (i : StreamId):
    (s.discardEarly g i).pending = s.pending ∧ (s.discardEarly g i).hold = s.hold ∧ (s.discardEarly g i).resetNLow = s.resetNLow
    ∧ (s.discardEarly g i).time = s.time ∧ (s.discardEarly g i).nodes = s.nodes ∧ (s.discardEarly g i).lastNode = s.lastNode ∧
    (s.discardEarly g i).intake = s.intake ∧ (s.discardEarly g i).freeRows = s.freeRows ∧ (s.discardEarly g i).cells = s.cells ∧
    (s.discardEarly g i).freeCells = s.freeCells ∧ (s.discardEarly g i).trunks = s.trunks ∧ (s.discardEarly g i).lastTrunk =
    s.lastTrunk ∧ (s.discardEarly g i).softPending = s.softPending ∧ (s.discardEarly g i).log = s.log ∧ (s.discardEarly g
    i).alertMask = s.alertMask ∧ (s.discardEarly g i).cause = s.cause ∧ (s.discardEarly g i).softCount = s.softCount ∧
    (s.discardEarly g i).draws = s.draws ∧ (∀ j, (s.discardEarly g i).node j = s.node j) ∧ (∀ j, (s.discardEarly g i).trunk j =
    s.trunk j) ∧ (∀ j, (s.discardEarly g i).cell j = s.cell j) := by
  simp [State.discardEarly]

@[simp] theorem State.resync_frame (s : State) (g : GroupId) (n : Instant):
    (s.resync g n).pending = s.pending ∧ (s.resync g n).hold = s.hold ∧ (s.resync g n).resetNLow = s.resetNLow ∧ (s.resync g
    n).time = s.time ∧ (s.resync g n).nodes = s.nodes ∧ (s.resync g n).lastNode = s.lastNode ∧ (s.resync g n).intake = s.intake
    ∧ (s.resync g n).freeRows = s.freeRows ∧ (s.resync g n).cells = s.cells ∧ (s.resync g n).freeCells = s.freeCells ∧ (s.resync
    g n).trunks = s.trunks ∧ (s.resync g n).lastTrunk = s.lastTrunk ∧ (s.resync g n).softPending = s.softPending ∧ (s.resync g
    n).alertMask = s.alertMask ∧ (s.resync g n).cause = s.cause ∧ (s.resync g n).softCount = s.softCount ∧ (s.resync g n).draws
    = s.draws ∧ (∀ j, (s.resync g n).node j = s.node j) ∧ (∀ j, (s.resync g n).trunk j = s.trunk j) ∧ (∀ j, (s.resync g n).cell
    j = s.cell j) := by
  simp [State.resync]

@[simp] theorem State.takeEarly_frame (s : State) (p : NodeId) (g : GroupId) (n : Instant) (k : Nat) (gen : Generation) (m : SampleMsg):
    (s.takeEarly p g n k gen m).pending = s.pending ∧ (s.takeEarly p g n k gen m).hold = s.hold ∧ (s.takeEarly p g n k gen
    m).resetNLow = s.resetNLow ∧ (s.takeEarly p g n k gen m).time = s.time ∧ (s.takeEarly p g n k gen m).nodes = s.nodes ∧
    (s.takeEarly p g n k gen m).lastNode = s.lastNode ∧ (s.takeEarly p g n k gen m).trunks = s.trunks ∧ (s.takeEarly p g n k gen
    m).lastTrunk = s.lastTrunk ∧ (s.takeEarly p g n k gen m).softPending = s.softPending ∧ (s.takeEarly p g n k gen m).alertMask
    = s.alertMask ∧ (s.takeEarly p g n k gen m).cause = s.cause ∧ (s.takeEarly p g n k gen m).softCount = s.softCount ∧
    (s.takeEarly p g n k gen m).draws = s.draws ∧ (∀ j, (s.takeEarly p g n k gen m).node j = s.node j) ∧ (∀ j, (s.takeEarly p g
    n k gen m).trunk j = s.trunk j) := by
  unfold State.takeEarly
  (repeat' split) <;> simp [State.node, State.trunk]

@[simp] theorem State.placeAgainst_frame (s : State) (p : NodeId) (g : GroupId) (e n : Instant) (k : Nat) (gen : Generation) (m : SampleMsg):
    (s.placeAgainst p g e n k gen m).pending = s.pending ∧ (s.placeAgainst p g e n k gen m).hold = s.hold ∧ (s.placeAgainst p g
    e n k gen m).resetNLow = s.resetNLow ∧ (s.placeAgainst p g e n k gen m).time = s.time ∧ (s.placeAgainst p g e n k gen
    m).nodes = s.nodes ∧ (s.placeAgainst p g e n k gen m).lastNode = s.lastNode ∧ (s.placeAgainst p g e n k gen m).trunks =
    s.trunks ∧ (s.placeAgainst p g e n k gen m).lastTrunk = s.lastTrunk ∧ (s.placeAgainst p g e n k gen m).softPending =
    s.softPending ∧ (s.placeAgainst p g e n k gen m).alertMask = s.alertMask ∧ (s.placeAgainst p g e n k gen m).cause = s.cause
    ∧ (s.placeAgainst p g e n k gen m).softCount = s.softCount ∧ (s.placeAgainst p g e n k gen m).draws = s.draws ∧ (∀ j,
    (s.placeAgainst p g e n k gen m).node j = s.node j) ∧ (∀ j, (s.placeAgainst p g e n k gen m).trunk j = s.trunk j) := by
  unfold State.placeAgainst
  (repeat' split) <;> simp

@[simp] theorem State.synchronise_frame (s : State) (p : NodeId) (g : GroupId) (n : Instant) (k : Nat) (gen : Generation) (m : SampleMsg):
    (s.synchronise p g n k gen m).pending = s.pending ∧ (s.synchronise p g n k gen m).hold = s.hold ∧ (s.synchronise p g n k gen
    m).resetNLow = s.resetNLow ∧ (s.synchronise p g n k gen m).time = s.time ∧ (s.synchronise p g n k gen m).nodes = s.nodes ∧
    (s.synchronise p g n k gen m).lastNode = s.lastNode ∧ (s.synchronise p g n k gen m).trunks = s.trunks ∧ (s.synchronise p g n
    k gen m).lastTrunk = s.lastTrunk ∧ (s.synchronise p g n k gen m).softPending = s.softPending ∧ (s.synchronise p g n k gen
    m).alertMask = s.alertMask ∧ (s.synchronise p g n k gen m).cause = s.cause ∧ (s.synchronise p g n k gen m).softCount =
    s.softCount ∧ (s.synchronise p g n k gen m).draws = s.draws ∧ (∀ j, (s.synchronise p g n k gen m).node j = s.node j) ∧ (∀ j,
    (s.synchronise p g n k gen m).trunk j = s.trunk j) := by
  unfold State.synchronise
  (repeat' split) <;> simp

@[simp] theorem State.classifyIn_frame (s : State) (p : NodeId) (g : GroupId) (m : SampleMsg):
    (s.classifyIn p g m).pending = s.pending ∧ (s.classifyIn p g m).hold = s.hold ∧ (s.classifyIn p g m).resetNLow = s.resetNLow
    ∧ (s.classifyIn p g m).time = s.time ∧ (s.classifyIn p g m).nodes = s.nodes ∧ (s.classifyIn p g m).lastNode = s.lastNode ∧
    (s.classifyIn p g m).trunks = s.trunks ∧ (s.classifyIn p g m).lastTrunk = s.lastTrunk ∧ (s.classifyIn p g m).softPending =
    s.softPending ∧ (s.classifyIn p g m).alertMask = s.alertMask ∧ (s.classifyIn p g m).cause = s.cause ∧ (s.classifyIn p g
    m).softCount = s.softCount ∧ (s.classifyIn p g m).draws = s.draws ∧ (∀ j, (s.classifyIn p g m).node j = s.node j) ∧ (∀ j,
    (s.classifyIn p g m).trunk j = s.trunk j) := by
  unfold State.classifyIn
  dsimp only
  (repeat' split) <;> simp

@[simp] theorem State.classify_frame (s : State) (p : NodeId) (m : SampleMsg):
    (s.classify p m).pending = s.pending ∧ (s.classify p m).hold = s.hold ∧ (s.classify p m).resetNLow = s.resetNLow ∧
    (s.classify p m).time = s.time ∧ (s.classify p m).lastNode = s.lastNode ∧ (s.classify p m).trunks = s.trunks ∧ (s.classify p
    m).lastTrunk = s.lastTrunk ∧ (s.classify p m).softPending = s.softPending ∧ (s.classify p m).alertMask = s.alertMask ∧
    (s.classify p m).cause = s.cause ∧ (s.classify p m).softCount = s.softCount ∧ (s.classify p m).draws = s.draws ∧ (∀ j,
    (s.classify p m).trunk j = s.trunk j) := by
  unfold State.classify
  dsimp only
  (repeat' split) <;> simp

@[simp] theorem State.placeWaiting_frame (s : State) (w : WaitingMsg) (k : Nat) (gen : Generation):
    (s.placeWaiting w k gen).pending = s.pending ∧ (s.placeWaiting w k gen).hold = s.hold ∧ (s.placeWaiting w k gen).resetNLow =
    s.resetNLow ∧ (s.placeWaiting w k gen).time = s.time ∧ (s.placeWaiting w k gen).nodes = s.nodes ∧ (s.placeWaiting w k
    gen).lastNode = s.lastNode ∧ (s.placeWaiting w k gen).intake = s.intake ∧ (s.placeWaiting w k gen).trunks = s.trunks ∧
    (s.placeWaiting w k gen).lastTrunk = s.lastTrunk ∧ (s.placeWaiting w k gen).softPending = s.softPending ∧ (s.placeWaiting w
    k gen).alertMask = s.alertMask ∧ (s.placeWaiting w k gen).cause = s.cause ∧ (s.placeWaiting w k gen).softCount = s.softCount
    ∧ (∀ j, (s.placeWaiting w k gen).node j = s.node j) ∧ (∀ j, (s.placeWaiting w k gen).trunk j = s.trunk j) := by
  unfold State.placeWaiting
  split <;> simp [State.node, State.trunk]

@[simp] theorem State.resumeMessage_frame (s : State) (w : WaitingMsg):
    (s.resumeMessage w).pending = s.pending ∧ (s.resumeMessage w).hold = s.hold ∧ (s.resumeMessage w).resetNLow = s.resetNLow ∧
    (s.resumeMessage w).time = s.time ∧ (s.resumeMessage w).nodes = s.nodes ∧ (s.resumeMessage w).lastNode = s.lastNode ∧
    (s.resumeMessage w).intake = s.intake ∧ (s.resumeMessage w).trunks = s.trunks ∧ (s.resumeMessage w).lastTrunk = s.lastTrunk
    ∧ (s.resumeMessage w).softPending = s.softPending ∧ (s.resumeMessage w).alertMask = s.alertMask ∧ (s.resumeMessage w).cause
    = s.cause ∧ (s.resumeMessage w).softCount = s.softCount ∧ (∀ j, (s.resumeMessage w).node j = s.node j) ∧ (∀ j,
    (s.resumeMessage w).trunk j = s.trunk j) := by
  unfold State.resumeMessage
  (repeat' split) <;> simp

@[simp] theorem State.takeMessage_frame (s : State) (p : NodeId):
    (s.takeMessage p).pending = s.pending ∧ (s.takeMessage p).hold = s.hold ∧ (s.takeMessage p).resetNLow = s.resetNLow ∧
    (s.takeMessage p).time = s.time ∧ (s.takeMessage p).trunks = s.trunks ∧ (s.takeMessage p).lastTrunk = s.lastTrunk ∧
    (s.takeMessage p).softPending = s.softPending ∧ (s.takeMessage p).alertMask = s.alertMask ∧ (s.takeMessage p).cause =
    s.cause ∧ (s.takeMessage p).softCount = s.softCount ∧ (s.takeMessage p).draws = s.draws ∧ (∀ j, (s.takeMessage p).trunk j =
    s.trunk j) := by
  unfold State.takeMessage
  split <;> simp [State.trunk]

@[simp] theorem State.settleAdvance_frame (s : State) (w : WaitingMsg):
    (s.settleAdvance w).pending = s.pending ∧ (s.settleAdvance w).hold = s.hold ∧ (s.settleAdvance w).resetNLow = s.resetNLow ∧
    (s.settleAdvance w).time = s.time ∧ (s.settleAdvance w).nodes = s.nodes ∧ (s.settleAdvance w).lastNode = s.lastNode ∧
    (s.settleAdvance w).lastTrunk = s.lastTrunk ∧ (s.settleAdvance w).softPending = s.softPending ∧ (s.settleAdvance
    w).alertMask = s.alertMask ∧ (s.settleAdvance w).cause = s.cause ∧ (s.settleAdvance w).softCount = s.softCount ∧ (∀ j,
    (s.settleAdvance w).node j = s.node j) := by
  unfold State.settleAdvance
  dsimp only
  split <;> simp [State.node]

@[simp] theorem State.expireRow_frame (s : State) (g : GroupId) (r : Row):
    (s.expireRow g r).pending = s.pending ∧ (s.expireRow g r).hold = s.hold ∧ (s.expireRow g r).resetNLow = s.resetNLow ∧
    (s.expireRow g r).nodes = s.nodes ∧ (s.expireRow g r).lastNode = s.lastNode ∧ (s.expireRow g r).intake = s.intake ∧
    (s.expireRow g r).streams = s.streams ∧ (s.expireRow g r).freeRows = s.freeRows ∧ (s.expireRow g r).cells = s.cells ∧
    (s.expireRow g r).freeCells = s.freeCells ∧ (s.expireRow g r).trunks = s.trunks ∧ (s.expireRow g r).lastTrunk = s.lastTrunk
    ∧ (s.expireRow g r).softPending = s.softPending ∧ (s.expireRow g r).log = s.log ∧ (s.expireRow g r).alertMask = s.alertMask
    ∧ (s.expireRow g r).cause = s.cause ∧ (s.expireRow g r).softCount = s.softCount ∧ (s.expireRow g r).draws = s.draws ∧ (∀ j,
    (s.expireRow g r).node j = s.node j) ∧ (∀ j, (s.expireRow g r).stream j = s.stream j) ∧ (∀ j, (s.expireRow g r).trunk j =
    s.trunk j) ∧ (∀ j, (s.expireRow g r).cell j = s.cell j) := by
  unfold State.expireRow
  dsimp only
  (repeat' split) <;> simp

@[simp] theorem State.takeAttempt_frame (s : State) (g : GroupId):
    (s.takeAttempt g).pending = s.pending ∧ (s.takeAttempt g).hold = s.hold ∧ (s.takeAttempt g).resetNLow = s.resetNLow ∧
    (s.takeAttempt g).time = s.time ∧ (s.takeAttempt g).nodes = s.nodes ∧ (s.takeAttempt g).lastNode = s.lastNode ∧
    (s.takeAttempt g).intake = s.intake ∧ (s.takeAttempt g).cells = s.cells ∧ (s.takeAttempt g).freeCells = s.freeCells ∧
    (s.takeAttempt g).lastTrunk = s.lastTrunk ∧ (s.takeAttempt g).softPending = s.softPending ∧ (s.takeAttempt g).alertMask =
    s.alertMask ∧ (s.takeAttempt g).cause = s.cause ∧ (s.takeAttempt g).softCount = s.softCount ∧ (∀ j, (s.takeAttempt g).node j
    = s.node j) ∧ (∀ j, (s.takeAttempt g).cell j = s.cell j) := by
  simp [State.takeAttempt]

/-! ### Node ports -/

@[simp] theorem State.nodeCheckError_frame (s : State) (p : NodeId):
    (s.nodeCheckError p).pending = s.pending ∧ (s.nodeCheckError p).hold = s.hold ∧ (s.nodeCheckError p).resetNLow = s.resetNLow
    ∧ (s.nodeCheckError p).time = s.time ∧ (s.nodeCheckError p).lastNode = s.lastNode ∧ (s.nodeCheckError p).intake = s.intake ∧
    (s.nodeCheckError p).streams = s.streams ∧ (s.nodeCheckError p).groups = s.groups ∧ (s.nodeCheckError p).freeRows =
    s.freeRows ∧ (s.nodeCheckError p).cells = s.cells ∧ (s.nodeCheckError p).freeCells = s.freeCells ∧ (s.nodeCheckError
    p).trunks = s.trunks ∧ (s.nodeCheckError p).lastTrunk = s.lastTrunk ∧ (s.nodeCheckError p).softPending = s.softPending ∧
    (s.nodeCheckError p).alertMask = s.alertMask ∧ (s.nodeCheckError p).cause = s.cause ∧ (s.nodeCheckError p).softCount =
    s.softCount ∧ (s.nodeCheckError p).draws = s.draws ∧ (∀ j, (s.nodeCheckError p).stream j = s.stream j) ∧ (∀ j,
    (s.nodeCheckError p).group j = s.group j) ∧ (∀ j, (s.nodeCheckError p).trunk j = s.trunk j) ∧ (∀ j, (s.nodeCheckError
    p).cell j = s.cell j) := by
  unfold State.nodeCheckError
  dsimp only
  split <;> simp

@[simp] theorem State.nodeMalformed_frame (s : State) (p : NodeId):
    (s.nodeMalformed p).pending = s.pending ∧ (s.nodeMalformed p).hold = s.hold ∧ (s.nodeMalformed p).resetNLow = s.resetNLow ∧
    (s.nodeMalformed p).time = s.time ∧ (s.nodeMalformed p).lastNode = s.lastNode ∧ (s.nodeMalformed p).intake = s.intake ∧
    (s.nodeMalformed p).streams = s.streams ∧ (s.nodeMalformed p).groups = s.groups ∧ (s.nodeMalformed p).freeRows = s.freeRows
    ∧ (s.nodeMalformed p).cells = s.cells ∧ (s.nodeMalformed p).freeCells = s.freeCells ∧ (s.nodeMalformed p).trunks = s.trunks
    ∧ (s.nodeMalformed p).lastTrunk = s.lastTrunk ∧ (s.nodeMalformed p).softPending = s.softPending ∧ (s.nodeMalformed p).log =
    s.log ∧ (s.nodeMalformed p).alertMask = s.alertMask ∧ (s.nodeMalformed p).cause = s.cause ∧ (s.nodeMalformed p).softCount =
    s.softCount ∧ (s.nodeMalformed p).draws = s.draws ∧ (∀ j, (s.nodeMalformed p).stream j = s.stream j) ∧ (∀ j,
    (s.nodeMalformed p).group j = s.group j) ∧ (∀ j, (s.nodeMalformed p).trunk j = s.trunk j) ∧ (∀ j, (s.nodeMalformed p).cell j
    = s.cell j) := by
  simp [State.nodeMalformed]

@[simp] theorem State.refuseMessage_frame (s : State) (p : NodeId):
    (s.refuseMessage p).pending = s.pending ∧ (s.refuseMessage p).hold = s.hold ∧ (s.refuseMessage p).resetNLow = s.resetNLow ∧
    (s.refuseMessage p).time = s.time ∧ (s.refuseMessage p).lastNode = s.lastNode ∧ (s.refuseMessage p).intake = s.intake ∧
    (s.refuseMessage p).streams = s.streams ∧ (s.refuseMessage p).groups = s.groups ∧ (s.refuseMessage p).freeRows = s.freeRows
    ∧ (s.refuseMessage p).cells = s.cells ∧ (s.refuseMessage p).freeCells = s.freeCells ∧ (s.refuseMessage p).trunks = s.trunks
    ∧ (s.refuseMessage p).lastTrunk = s.lastTrunk ∧ (s.refuseMessage p).softPending = s.softPending ∧ (s.refuseMessage
    p).alertMask = s.alertMask ∧ (s.refuseMessage p).cause = s.cause ∧ (s.refuseMessage p).softCount = s.softCount ∧
    (s.refuseMessage p).draws = s.draws ∧ (∀ j, (s.refuseMessage p).stream j = s.stream j) ∧ (∀ j, (s.refuseMessage p).group j =
    s.group j) ∧ (∀ j, (s.refuseMessage p).trunk j = s.trunk j) ∧ (∀ j, (s.refuseMessage p).cell j = s.cell j) := by
  unfold State.refuseMessage
  dsimp only
  split <;> simp

@[simp] theorem State.offerMessage_frame (s : State) (p : NodeId) (m : SampleMsg):
    (s.offerMessage p m).pending = s.pending ∧ (s.offerMessage p m).hold = s.hold ∧ (s.offerMessage p m).resetNLow = s.resetNLow
    ∧ (s.offerMessage p m).time = s.time ∧ (s.offerMessage p m).lastNode = s.lastNode ∧ (s.offerMessage p m).intake = s.intake ∧
    (s.offerMessage p m).streams = s.streams ∧ (s.offerMessage p m).groups = s.groups ∧ (s.offerMessage p m).freeRows =
    s.freeRows ∧ (s.offerMessage p m).cells = s.cells ∧ (s.offerMessage p m).freeCells = s.freeCells ∧ (s.offerMessage p
    m).trunks = s.trunks ∧ (s.offerMessage p m).lastTrunk = s.lastTrunk ∧ (s.offerMessage p m).softPending = s.softPending ∧
    (s.offerMessage p m).alertMask = s.alertMask ∧ (s.offerMessage p m).cause = s.cause ∧ (s.offerMessage p m).softCount =
    s.softCount ∧ (s.offerMessage p m).draws = s.draws ∧ (∀ j, (s.offerMessage p m).stream j = s.stream j) ∧ (∀ j,
    (s.offerMessage p m).group j = s.group j) ∧ (∀ j, (s.offerMessage p m).trunk j = s.trunk j) ∧ (∀ j, (s.offerMessage p
    m).cell j = s.cell j) := by
  unfold State.offerMessage
  (repeat' split) <;> simp

@[simp] theorem State.nodeGood_frame (s : State) (p : NodeId) (m : SampleMsg):
    (s.nodeGood p m).pending = s.pending ∧ (s.nodeGood p m).hold = s.hold ∧ (s.nodeGood p m).resetNLow = s.resetNLow ∧
    (s.nodeGood p m).time = s.time ∧ (s.nodeGood p m).lastNode = s.lastNode ∧ (s.nodeGood p m).intake = s.intake ∧ (s.nodeGood p
    m).streams = s.streams ∧ (s.nodeGood p m).groups = s.groups ∧ (s.nodeGood p m).freeRows = s.freeRows ∧ (s.nodeGood p
    m).cells = s.cells ∧ (s.nodeGood p m).freeCells = s.freeCells ∧ (s.nodeGood p m).trunks = s.trunks ∧ (s.nodeGood p
    m).lastTrunk = s.lastTrunk ∧ (s.nodeGood p m).softPending = s.softPending ∧ (s.nodeGood p m).alertMask = s.alertMask ∧
    (s.nodeGood p m).cause = s.cause ∧ (s.nodeGood p m).softCount = s.softCount ∧ (s.nodeGood p m).draws = s.draws ∧ (∀ j,
    (s.nodeGood p m).stream j = s.stream j) ∧ (∀ j, (s.nodeGood p m).group j = s.group j) ∧ (∀ j, (s.nodeGood p m).trunk j =
    s.trunk j) ∧ (∀ j, (s.nodeGood p m).cell j = s.cell j) := by
  simp [State.nodeGood]

@[simp] theorem State.nodeReceive_frame (s : State) (p : NodeId) (v : SampleVerdict):
    (s.nodeReceive p v).pending = s.pending ∧ (s.nodeReceive p v).hold = s.hold ∧ (s.nodeReceive p v).resetNLow = s.resetNLow ∧
    (s.nodeReceive p v).time = s.time ∧ (s.nodeReceive p v).lastNode = s.lastNode ∧ (s.nodeReceive p v).intake = s.intake ∧
    (s.nodeReceive p v).streams = s.streams ∧ (s.nodeReceive p v).groups = s.groups ∧ (s.nodeReceive p v).freeRows = s.freeRows
    ∧ (s.nodeReceive p v).cells = s.cells ∧ (s.nodeReceive p v).freeCells = s.freeCells ∧ (s.nodeReceive p v).trunks = s.trunks
    ∧ (s.nodeReceive p v).lastTrunk = s.lastTrunk ∧ (s.nodeReceive p v).softPending = s.softPending ∧ (s.nodeReceive p
    v).alertMask = s.alertMask ∧ (s.nodeReceive p v).cause = s.cause ∧ (s.nodeReceive p v).softCount = s.softCount ∧
    (s.nodeReceive p v).draws = s.draws ∧ (∀ j, (s.nodeReceive p v).stream j = s.stream j) ∧ (∀ j, (s.nodeReceive p v).group j =
    s.group j) ∧ (∀ j, (s.nodeReceive p v).trunk j = s.trunk j) ∧ (∀ j, (s.nodeReceive p v).cell j = s.cell j) := by
  unfold State.nodeReceive
  (repeat' split) <;> simp

@[simp] theorem State.closeReception_frame (s : State) (p : NodeId):
    (s.closeReception p).pending = s.pending ∧ (s.closeReception p).hold = s.hold ∧ (s.closeReception p).resetNLow = s.resetNLow
    ∧ (s.closeReception p).time = s.time ∧ (s.closeReception p).lastNode = s.lastNode ∧ (s.closeReception p).intake = s.intake ∧
    (s.closeReception p).streams = s.streams ∧ (s.closeReception p).groups = s.groups ∧ (s.closeReception p).freeRows =
    s.freeRows ∧ (s.closeReception p).cells = s.cells ∧ (s.closeReception p).freeCells = s.freeCells ∧ (s.closeReception
    p).trunks = s.trunks ∧ (s.closeReception p).lastTrunk = s.lastTrunk ∧ (s.closeReception p).softPending = s.softPending ∧
    (s.closeReception p).log = s.log ∧ (s.closeReception p).alertMask = s.alertMask ∧ (s.closeReception p).cause = s.cause ∧
    (s.closeReception p).softCount = s.softCount ∧ (s.closeReception p).draws = s.draws ∧ (∀ j, (s.closeReception p).stream j =
    s.stream j) ∧ (∀ j, (s.closeReception p).group j = s.group j) ∧ (∀ j, (s.closeReception p).trunk j = s.trunk j) ∧ (∀ j,
    (s.closeReception p).cell j = s.cell j) := by
  simp [State.closeReception]

/-! ### Trunk ports -/

@[simp] theorem State.trunkAlignStep_frame (s : State) (p : TrunkId):
    (s.trunkAlignStep p).pending = s.pending ∧ (s.trunkAlignStep p).hold = s.hold ∧ (s.trunkAlignStep p).resetNLow = s.resetNLow
    ∧ (s.trunkAlignStep p).time = s.time ∧ (s.trunkAlignStep p).nodes = s.nodes ∧ (s.trunkAlignStep p).lastNode = s.lastNode ∧
    (s.trunkAlignStep p).intake = s.intake ∧ (s.trunkAlignStep p).streams = s.streams ∧ (s.trunkAlignStep p).freeRows =
    s.freeRows ∧ (s.trunkAlignStep p).cells = s.cells ∧ (s.trunkAlignStep p).freeCells = s.freeCells ∧ (s.trunkAlignStep
    p).lastTrunk = s.lastTrunk ∧ (s.trunkAlignStep p).softPending = s.softPending ∧ (s.trunkAlignStep p).log = s.log ∧
    (s.trunkAlignStep p).alertMask = s.alertMask ∧ (s.trunkAlignStep p).cause = s.cause ∧ (s.trunkAlignStep p).softCount =
    s.softCount ∧ (s.trunkAlignStep p).draws = s.draws ∧ (∀ j, (s.trunkAlignStep p).node j = s.node j) ∧ (∀ j, (s.trunkAlignStep
    p).stream j = s.stream j) ∧ (∀ j, (s.trunkAlignStep p).cell j = s.cell j) := by
  unfold State.trunkAlignStep
  dsimp only
  split <;> simp

@[simp] theorem State.closeTrunkReception_frame (s : State) (p : TrunkId):
    (s.closeTrunkReception p).pending = s.pending ∧ (s.closeTrunkReception p).hold = s.hold ∧ (s.closeTrunkReception
    p).resetNLow = s.resetNLow ∧ (s.closeTrunkReception p).time = s.time ∧ (s.closeTrunkReception p).nodes = s.nodes ∧
    (s.closeTrunkReception p).lastNode = s.lastNode ∧ (s.closeTrunkReception p).intake = s.intake ∧ (s.closeTrunkReception
    p).streams = s.streams ∧ (s.closeTrunkReception p).groups = s.groups ∧ (s.closeTrunkReception p).freeRows = s.freeRows ∧
    (s.closeTrunkReception p).cells = s.cells ∧ (s.closeTrunkReception p).freeCells = s.freeCells ∧ (s.closeTrunkReception
    p).lastTrunk = s.lastTrunk ∧ (s.closeTrunkReception p).softPending = s.softPending ∧ (s.closeTrunkReception p).log = s.log ∧
    (s.closeTrunkReception p).alertMask = s.alertMask ∧ (s.closeTrunkReception p).cause = s.cause ∧ (s.closeTrunkReception
    p).softCount = s.softCount ∧ (s.closeTrunkReception p).draws = s.draws ∧ (∀ j, (s.closeTrunkReception p).node j = s.node j)
    ∧ (∀ j, (s.closeTrunkReception p).stream j = s.stream j) ∧ (∀ j, (s.closeTrunkReception p).group j = s.group j) ∧ (∀ j,
    (s.closeTrunkReception p).cell j = s.cell j) := by
  simp [State.closeTrunkReception]

@[simp] theorem State.trunkBadForm_frame (s : State) (p : TrunkId):
    (s.trunkBadForm p).pending = s.pending ∧ (s.trunkBadForm p).hold = s.hold ∧ (s.trunkBadForm p).resetNLow = s.resetNLow ∧
    (s.trunkBadForm p).time = s.time ∧ (s.trunkBadForm p).nodes = s.nodes ∧ (s.trunkBadForm p).lastNode = s.lastNode ∧
    (s.trunkBadForm p).intake = s.intake ∧ (s.trunkBadForm p).streams = s.streams ∧ (s.trunkBadForm p).groups = s.groups ∧
    (s.trunkBadForm p).freeRows = s.freeRows ∧ (s.trunkBadForm p).cells = s.cells ∧ (s.trunkBadForm p).freeCells = s.freeCells ∧
    (s.trunkBadForm p).lastTrunk = s.lastTrunk ∧ (s.trunkBadForm p).softPending = s.softPending ∧ (s.trunkBadForm p).log = s.log
    ∧ (s.trunkBadForm p).alertMask = s.alertMask ∧ (s.trunkBadForm p).cause = s.cause ∧ (s.trunkBadForm p).softCount =
    s.softCount ∧ (s.trunkBadForm p).draws = s.draws ∧ (∀ j, (s.trunkBadForm p).node j = s.node j) ∧ (∀ j, (s.trunkBadForm
    p).stream j = s.stream j) ∧ (∀ j, (s.trunkBadForm p).group j = s.group j) ∧ (∀ j, (s.trunkBadForm p).cell j = s.cell j) := by
  simp [State.trunkBadForm]

@[simp] theorem State.trunkAlignUnit_frame (s : State) (p : TrunkId) (v : TrunkVerdict):
    (s.trunkAlignUnit p v).pending = s.pending ∧ (s.trunkAlignUnit p v).hold = s.hold ∧ (s.trunkAlignUnit p v).resetNLow =
    s.resetNLow ∧ (s.trunkAlignUnit p v).time = s.time ∧ (s.trunkAlignUnit p v).nodes = s.nodes ∧ (s.trunkAlignUnit p
    v).lastNode = s.lastNode ∧ (s.trunkAlignUnit p v).intake = s.intake ∧ (s.trunkAlignUnit p v).streams = s.streams ∧
    (s.trunkAlignUnit p v).freeRows = s.freeRows ∧ (s.trunkAlignUnit p v).cells = s.cells ∧ (s.trunkAlignUnit p v).freeCells =
    s.freeCells ∧ (s.trunkAlignUnit p v).lastTrunk = s.lastTrunk ∧ (s.trunkAlignUnit p v).softPending = s.softPending ∧
    (s.trunkAlignUnit p v).log = s.log ∧ (s.trunkAlignUnit p v).alertMask = s.alertMask ∧ (s.trunkAlignUnit p v).cause = s.cause
    ∧ (s.trunkAlignUnit p v).softCount = s.softCount ∧ (s.trunkAlignUnit p v).draws = s.draws ∧ (∀ j, (s.trunkAlignUnit p
    v).node j = s.node j) ∧ (∀ j, (s.trunkAlignUnit p v).stream j = s.stream j) ∧ (∀ j, (s.trunkAlignUnit p v).cell j = s.cell
    j) := by
  unfold State.trunkAlignUnit
  (repeat' split) <;> simp

@[simp] theorem State.expireStarve_frame (s : State) (p : TrunkId) (t : Time):
    (s.expireStarve p t).pending = s.pending ∧ (s.expireStarve p t).hold = s.hold ∧ (s.expireStarve p t).resetNLow = s.resetNLow
    ∧ (s.expireStarve p t).nodes = s.nodes ∧ (s.expireStarve p t).lastNode = s.lastNode ∧ (s.expireStarve p t).intake = s.intake
    ∧ (s.expireStarve p t).streams = s.streams ∧ (s.expireStarve p t).groups = s.groups ∧ (s.expireStarve p t).freeRows =
    s.freeRows ∧ (s.expireStarve p t).cells = s.cells ∧ (s.expireStarve p t).freeCells = s.freeCells ∧ (s.expireStarve p
    t).lastTrunk = s.lastTrunk ∧ (s.expireStarve p t).softPending = s.softPending ∧ (s.expireStarve p t).alertMask = s.alertMask
    ∧ (s.expireStarve p t).cause = s.cause ∧ (s.expireStarve p t).softCount = s.softCount ∧ (s.expireStarve p t).draws = s.draws
    ∧ (∀ j, (s.expireStarve p t).node j = s.node j) ∧ (∀ j, (s.expireStarve p t).stream j = s.stream j) ∧ (∀ j, (s.expireStarve
    p t).group j = s.group j) ∧ (∀ j, (s.expireStarve p t).cell j = s.cell j) := by
  simp [State.expireStarve]

@[simp] theorem State.expireMark_frame (s : State) (p : TrunkId) (t : Time):
    (s.expireMark p t).pending = s.pending ∧ (s.expireMark p t).hold = s.hold ∧ (s.expireMark p t).resetNLow = s.resetNLow ∧
    (s.expireMark p t).nodes = s.nodes ∧ (s.expireMark p t).lastNode = s.lastNode ∧ (s.expireMark p t).intake = s.intake ∧
    (s.expireMark p t).streams = s.streams ∧ (s.expireMark p t).freeRows = s.freeRows ∧ (s.expireMark p t).cells = s.cells ∧
    (s.expireMark p t).freeCells = s.freeCells ∧ (s.expireMark p t).lastTrunk = s.lastTrunk ∧ (s.expireMark p t).softPending =
    s.softPending ∧ (s.expireMark p t).alertMask = s.alertMask ∧ (s.expireMark p t).cause = s.cause ∧ (s.expireMark p
    t).softCount = s.softCount ∧ (s.expireMark p t).draws = s.draws ∧ (∀ j, (s.expireMark p t).node j = s.node j) ∧ (∀ j,
    (s.expireMark p t).stream j = s.stream j) ∧ (∀ j, (s.expireMark p t).cell j = s.cell j) := by
  unfold State.expireMark
  dsimp only
  split <;> simp

@[simp] theorem State.endMark_frame (s : State) (p : TrunkId):
    (s.endMark p).pending = s.pending ∧ (s.endMark p).hold = s.hold ∧ (s.endMark p).resetNLow = s.resetNLow ∧ (s.endMark p).time
    = s.time ∧ (s.endMark p).nodes = s.nodes ∧ (s.endMark p).lastNode = s.lastNode ∧ (s.endMark p).intake = s.intake ∧
    (s.endMark p).streams = s.streams ∧ (s.endMark p).freeRows = s.freeRows ∧ (s.endMark p).cells = s.cells ∧ (s.endMark
    p).freeCells = s.freeCells ∧ (s.endMark p).lastTrunk = s.lastTrunk ∧ (s.endMark p).softPending = s.softPending ∧ (s.endMark
    p).log = s.log ∧ (s.endMark p).alertMask = s.alertMask ∧ (s.endMark p).cause = s.cause ∧ (s.endMark p).softCount =
    s.softCount ∧ (s.endMark p).draws = s.draws ∧ (∀ j, (s.endMark p).node j = s.node j) ∧ (∀ j, (s.endMark p).stream j =
    s.stream j) ∧ (∀ j, (s.endMark p).cell j = s.cell j) := by
  simp [State.endMark]

/-! ### The engine -/

@[simp] theorem State.placeReply_frame (s : State) (p : TrunkId) (r : Reply):
    (s.placeReply p r).pending = s.pending ∧ (s.placeReply p r).hold = s.hold ∧ (s.placeReply p r).resetNLow = s.resetNLow ∧
    (s.placeReply p r).time = s.time ∧ (s.placeReply p r).nodes = s.nodes ∧ (s.placeReply p r).lastNode = s.lastNode ∧
    (s.placeReply p r).intake = s.intake ∧ (s.placeReply p r).streams = s.streams ∧ (s.placeReply p r).freeRows = s.freeRows ∧
    (s.placeReply p r).cells = s.cells ∧ (s.placeReply p r).freeCells = s.freeCells ∧ (s.placeReply p r).lastTrunk = s.lastTrunk
    ∧ (s.placeReply p r).softPending = s.softPending ∧ (s.placeReply p r).log = s.log ∧ (s.placeReply p r).alertMask =
    s.alertMask ∧ (s.placeReply p r).cause = s.cause ∧ (s.placeReply p r).softCount = s.softCount ∧ (s.placeReply p r).draws =
    s.draws ∧ (∀ j, (s.placeReply p r).node j = s.node j) ∧ (∀ j, (s.placeReply p r).stream j = s.stream j) ∧ (∀ j,
    (s.placeReply p r).cell j = s.cell j) := by
  simp [State.placeReply]

@[simp] theorem State.dequeue_frame (s : State) (p : TrunkId) (rest : List Request):
    (s.dequeue p rest).pending = s.pending ∧ (s.dequeue p rest).hold = s.hold ∧ (s.dequeue p rest).resetNLow = s.resetNLow ∧
    (s.dequeue p rest).time = s.time ∧ (s.dequeue p rest).nodes = s.nodes ∧ (s.dequeue p rest).lastNode = s.lastNode ∧
    (s.dequeue p rest).intake = s.intake ∧ (s.dequeue p rest).streams = s.streams ∧ (s.dequeue p rest).groups = s.groups ∧
    (s.dequeue p rest).freeRows = s.freeRows ∧ (s.dequeue p rest).cells = s.cells ∧ (s.dequeue p rest).freeCells = s.freeCells ∧
    (s.dequeue p rest).softPending = s.softPending ∧ (s.dequeue p rest).log = s.log ∧ (s.dequeue p rest).alertMask = s.alertMask
    ∧ (s.dequeue p rest).cause = s.cause ∧ (s.dequeue p rest).softCount = s.softCount ∧ (s.dequeue p rest).draws = s.draws ∧ (∀
    j, (s.dequeue p rest).node j = s.node j) ∧ (∀ j, (s.dequeue p rest).stream j = s.stream j) ∧ (∀ j, (s.dequeue p rest).group
    j = s.group j) ∧ (∀ j, (s.dequeue p rest).cell j = s.cell j) := by
  simp [State.dequeue, State.node, State.stream, State.group, State.cell]

@[simp] theorem State.commitNow_frame (s : State) (g : GroupId):
    (s.commitNow g).pending = s.pending ∧ (s.commitNow g).hold = s.hold ∧ (s.commitNow g).resetNLow = s.resetNLow ∧ (s.commitNow
    g).time = s.time ∧ (s.commitNow g).nodes = s.nodes ∧ (s.commitNow g).lastNode = s.lastNode ∧ (s.commitNow g).intake =
    s.intake ∧ (s.commitNow g).freeRows = s.freeRows ∧ (s.commitNow g).cells = s.cells ∧ (s.commitNow g).freeCells = s.freeCells
    ∧ (s.commitNow g).trunks = s.trunks ∧ (s.commitNow g).lastTrunk = s.lastTrunk ∧ (s.commitNow g).softPending = s.softPending
    ∧ (s.commitNow g).log = s.log ∧ (s.commitNow g).alertMask = s.alertMask ∧ (s.commitNow g).cause = s.cause ∧ (s.commitNow
    g).softCount = s.softCount ∧ (s.commitNow g).draws = s.draws ∧ (∀ j, (s.commitNow g).node j = s.node j) ∧ (∀ j, (s.commitNow
    g).trunk j = s.trunk j) ∧ (∀ j, (s.commitNow g).cell j = s.cell j) := by
  simp [State.commitNow]

@[simp] theorem State.commitArmed_frame (s : State) (g : GroupId) (n : Instant):
    (s.commitArmed g n).pending = s.pending ∧ (s.commitArmed g n).hold = s.hold ∧ (s.commitArmed g n).resetNLow = s.resetNLow ∧
    (s.commitArmed g n).time = s.time ∧ (s.commitArmed g n).nodes = s.nodes ∧ (s.commitArmed g n).lastNode = s.lastNode ∧
    (s.commitArmed g n).intake = s.intake ∧ (s.commitArmed g n).freeRows = s.freeRows ∧ (s.commitArmed g n).cells = s.cells ∧
    (s.commitArmed g n).freeCells = s.freeCells ∧ (s.commitArmed g n).trunks = s.trunks ∧ (s.commitArmed g n).lastTrunk =
    s.lastTrunk ∧ (s.commitArmed g n).softPending = s.softPending ∧ (s.commitArmed g n).log = s.log ∧ (s.commitArmed g
    n).alertMask = s.alertMask ∧ (s.commitArmed g n).cause = s.cause ∧ (s.commitArmed g n).softCount = s.softCount ∧
    (s.commitArmed g n).draws = s.draws ∧ (∀ j, (s.commitArmed g n).node j = s.node j) ∧ (∀ j, (s.commitArmed g n).trunk j =
    s.trunk j) ∧ (∀ j, (s.commitArmed g n).cell j = s.cell j) := by
  simp [State.commitArmed]

@[simp] theorem State.cancelArmed_frame (s : State) (g : GroupId):
    (s.cancelArmed g).pending = s.pending ∧ (s.cancelArmed g).hold = s.hold ∧ (s.cancelArmed g).resetNLow = s.resetNLow ∧
    (s.cancelArmed g).time = s.time ∧ (s.cancelArmed g).nodes = s.nodes ∧ (s.cancelArmed g).lastNode = s.lastNode ∧
    (s.cancelArmed g).intake = s.intake ∧ (s.cancelArmed g).freeRows = s.freeRows ∧ (s.cancelArmed g).cells = s.cells ∧
    (s.cancelArmed g).freeCells = s.freeCells ∧ (s.cancelArmed g).trunks = s.trunks ∧ (s.cancelArmed g).lastTrunk = s.lastTrunk
    ∧ (s.cancelArmed g).softPending = s.softPending ∧ (s.cancelArmed g).log = s.log ∧ (s.cancelArmed g).alertMask = s.alertMask
    ∧ (s.cancelArmed g).cause = s.cause ∧ (s.cancelArmed g).softCount = s.softCount ∧ (s.cancelArmed g).draws = s.draws ∧ (∀ j,
    (s.cancelArmed g).node j = s.node j) ∧ (∀ j, (s.cancelArmed g).trunk j = s.trunk j) ∧ (∀ j, (s.cancelArmed g).cell j =
    s.cell j) := by
  simp [State.cancelArmed]

@[simp] theorem State.startGroup_frame (s : State) (g : GroupId):
    (s.startGroup g).pending = s.pending ∧ (s.startGroup g).hold = s.hold ∧ (s.startGroup g).resetNLow = s.resetNLow ∧
    (s.startGroup g).time = s.time ∧ (s.startGroup g).nodes = s.nodes ∧ (s.startGroup g).lastNode = s.lastNode ∧ (s.startGroup
    g).intake = s.intake ∧ (s.startGroup g).freeRows = s.freeRows ∧ (s.startGroup g).cells = s.cells ∧ (s.startGroup
    g).freeCells = s.freeCells ∧ (s.startGroup g).trunks = s.trunks ∧ (s.startGroup g).lastTrunk = s.lastTrunk ∧ (s.startGroup
    g).softPending = s.softPending ∧ (s.startGroup g).log = s.log ∧ (s.startGroup g).alertMask = s.alertMask ∧ (s.startGroup
    g).cause = s.cause ∧ (s.startGroup g).softCount = s.softCount ∧ (s.startGroup g).draws = s.draws ∧ (∀ j, (s.startGroup
    g).node j = s.node j) ∧ (∀ j, (s.startGroup g).trunk j = s.trunk j) ∧ (∀ j, (s.startGroup g).cell j = s.cell j) := by
  simp [State.startGroup]

@[simp] theorem State.stopGroup_frame (s : State) (g : GroupId):
    (s.stopGroup g).pending = s.pending ∧ (s.stopGroup g).hold = s.hold ∧ (s.stopGroup g).resetNLow = s.resetNLow ∧ (s.stopGroup
    g).time = s.time ∧ (s.stopGroup g).nodes = s.nodes ∧ (s.stopGroup g).lastNode = s.lastNode ∧ (s.stopGroup g).intake =
    s.intake ∧ (s.stopGroup g).freeRows = s.freeRows ∧ (s.stopGroup g).cells = s.cells ∧ (s.stopGroup g).freeCells = s.freeCells
    ∧ (s.stopGroup g).trunks = s.trunks ∧ (s.stopGroup g).lastTrunk = s.lastTrunk ∧ (s.stopGroup g).softPending = s.softPending
    ∧ (s.stopGroup g).log = s.log ∧ (s.stopGroup g).alertMask = s.alertMask ∧ (s.stopGroup g).cause = s.cause ∧ (s.stopGroup
    g).softCount = s.softCount ∧ (s.stopGroup g).draws = s.draws ∧ (∀ j, (s.stopGroup g).node j = s.node j) ∧ (∀ j, (s.stopGroup
    g).trunk j = s.trunk j) ∧ (∀ j, (s.stopGroup g).cell j = s.cell j) := by
  unfold State.stopGroup
  (repeat' split) <;> simp

@[simp] theorem State.releaseAll_frame (s : State) (g : GroupId):
    (s.releaseAll g).pending = s.pending ∧ (s.releaseAll g).hold = s.hold ∧ (s.releaseAll g).resetNLow = s.resetNLow ∧
    (s.releaseAll g).time = s.time ∧ (s.releaseAll g).nodes = s.nodes ∧ (s.releaseAll g).lastNode = s.lastNode ∧ (s.releaseAll
    g).intake = s.intake ∧ (s.releaseAll g).cells = s.cells ∧ (s.releaseAll g).trunks = s.trunks ∧ (s.releaseAll g).lastTrunk =
    s.lastTrunk ∧ (s.releaseAll g).softPending = s.softPending ∧ (s.releaseAll g).log = s.log ∧ (s.releaseAll g).alertMask =
    s.alertMask ∧ (s.releaseAll g).cause = s.cause ∧ (s.releaseAll g).softCount = s.softCount ∧ (s.releaseAll g).draws = s.draws
    ∧ (∀ j, (s.releaseAll g).node j = s.node j) ∧ (∀ j, (s.releaseAll g).trunk j = s.trunk j) ∧ (∀ j, (s.releaseAll g).cell j =
    s.cell j) := by
  simp [State.releaseAll]

@[simp] theorem State.abortGroup_frame (s : State) (g : GroupId):
    (s.abortGroup g).pending = s.pending ∧ (s.abortGroup g).hold = s.hold ∧ (s.abortGroup g).resetNLow = s.resetNLow ∧
    (s.abortGroup g).time = s.time ∧ (s.abortGroup g).nodes = s.nodes ∧ (s.abortGroup g).lastNode = s.lastNode ∧ (s.abortGroup
    g).intake = s.intake ∧ (s.abortGroup g).cells = s.cells ∧ (s.abortGroup g).trunks = s.trunks ∧ (s.abortGroup g).lastTrunk =
    s.lastTrunk ∧ (s.abortGroup g).softPending = s.softPending ∧ (s.abortGroup g).log = s.log ∧ (s.abortGroup g).alertMask =
    s.alertMask ∧ (s.abortGroup g).cause = s.cause ∧ (s.abortGroup g).softCount = s.softCount ∧ (s.abortGroup g).draws = s.draws
    ∧ (∀ j, (s.abortGroup g).node j = s.node j) ∧ (∀ j, (s.abortGroup g).trunk j = s.trunk j) ∧ (∀ j, (s.abortGroup g).cell j =
    s.cell j) := by
  simp [State.abortGroup]

@[simp] theorem State.setPorts_frame (s : State) (set : Word) (v : Bool):
    (s.setPorts set v).pending = s.pending ∧ (s.setPorts set v).hold = s.hold ∧ (s.setPorts set v).resetNLow = s.resetNLow ∧
    (s.setPorts set v).time = s.time ∧ (s.setPorts set v).lastNode = s.lastNode ∧ (s.setPorts set v).intake = s.intake ∧
    (s.setPorts set v).streams = s.streams ∧ (s.setPorts set v).groups = s.groups ∧ (s.setPorts set v).freeRows = s.freeRows ∧
    (s.setPorts set v).cells = s.cells ∧ (s.setPorts set v).freeCells = s.freeCells ∧ (s.setPorts set v).trunks = s.trunks ∧
    (s.setPorts set v).lastTrunk = s.lastTrunk ∧ (s.setPorts set v).softPending = s.softPending ∧ (s.setPorts set v).log = s.log
    ∧ (s.setPorts set v).alertMask = s.alertMask ∧ (s.setPorts set v).cause = s.cause ∧ (s.setPorts set v).softCount =
    s.softCount ∧ (s.setPorts set v).draws = s.draws ∧ (∀ j, (s.setPorts set v).stream j = s.stream j) ∧ (∀ j, (s.setPorts set
    v).group j = s.group j) ∧ (∀ j, (s.setPorts set v).trunk j = s.trunk j) ∧ (∀ j, (s.setPorts set v).cell j = s.cell j) := by
  simp [State.setPorts, State.stream, State.group, State.trunk, State.cell]

@[simp] theorem State.setMarkInterval_frame (s : State) (p : TrunkId) (n : Nat):
    (s.setMarkInterval p n).pending = s.pending ∧ (s.setMarkInterval p n).hold = s.hold ∧ (s.setMarkInterval p n).resetNLow =
    s.resetNLow ∧ (s.setMarkInterval p n).time = s.time ∧ (s.setMarkInterval p n).nodes = s.nodes ∧ (s.setMarkInterval p
    n).lastNode = s.lastNode ∧ (s.setMarkInterval p n).intake = s.intake ∧ (s.setMarkInterval p n).streams = s.streams ∧
    (s.setMarkInterval p n).groups = s.groups ∧ (s.setMarkInterval p n).freeRows = s.freeRows ∧ (s.setMarkInterval p n).cells =
    s.cells ∧ (s.setMarkInterval p n).freeCells = s.freeCells ∧ (s.setMarkInterval p n).lastTrunk = s.lastTrunk ∧
    (s.setMarkInterval p n).softPending = s.softPending ∧ (s.setMarkInterval p n).log = s.log ∧ (s.setMarkInterval p
    n).alertMask = s.alertMask ∧ (s.setMarkInterval p n).cause = s.cause ∧ (s.setMarkInterval p n).softCount = s.softCount ∧
    (s.setMarkInterval p n).draws = s.draws ∧ (∀ j, (s.setMarkInterval p n).node j = s.node j) ∧ (∀ j, (s.setMarkInterval p
    n).stream j = s.stream j) ∧ (∀ j, (s.setMarkInterval p n).group j = s.group j) ∧ (∀ j, (s.setMarkInterval p n).cell j =
    s.cell j) := by
  simp [State.setMarkInterval]

@[simp] theorem State.setStarveLimit_frame (s : State) (p : TrunkId) (n : Nat):
    (s.setStarveLimit p n).pending = s.pending ∧ (s.setStarveLimit p n).hold = s.hold ∧ (s.setStarveLimit p n).resetNLow =
    s.resetNLow ∧ (s.setStarveLimit p n).time = s.time ∧ (s.setStarveLimit p n).nodes = s.nodes ∧ (s.setStarveLimit p
    n).lastNode = s.lastNode ∧ (s.setStarveLimit p n).intake = s.intake ∧ (s.setStarveLimit p n).streams = s.streams ∧
    (s.setStarveLimit p n).groups = s.groups ∧ (s.setStarveLimit p n).freeRows = s.freeRows ∧ (s.setStarveLimit p n).cells =
    s.cells ∧ (s.setStarveLimit p n).freeCells = s.freeCells ∧ (s.setStarveLimit p n).lastTrunk = s.lastTrunk ∧
    (s.setStarveLimit p n).softPending = s.softPending ∧ (s.setStarveLimit p n).log = s.log ∧ (s.setStarveLimit p n).alertMask =
    s.alertMask ∧ (s.setStarveLimit p n).cause = s.cause ∧ (s.setStarveLimit p n).softCount = s.softCount ∧ (s.setStarveLimit p
    n).draws = s.draws ∧ (∀ j, (s.setStarveLimit p n).node j = s.node j) ∧ (∀ j, (s.setStarveLimit p n).stream j = s.stream j) ∧
    (∀ j, (s.setStarveLimit p n).group j = s.group j) ∧ (∀ j, (s.setStarveLimit p n).cell j = s.cell j) := by
  simp [State.setStarveLimit]

@[simp] theorem State.setTrunkParams_frame (s : State) (p : TrunkId) (a b : Option Word):
    (s.setTrunkParams p a b).pending = s.pending ∧ (s.setTrunkParams p a b).hold = s.hold ∧ (s.setTrunkParams p a b).resetNLow =
    s.resetNLow ∧ (s.setTrunkParams p a b).time = s.time ∧ (s.setTrunkParams p a b).nodes = s.nodes ∧ (s.setTrunkParams p a
    b).lastNode = s.lastNode ∧ (s.setTrunkParams p a b).intake = s.intake ∧ (s.setTrunkParams p a b).streams = s.streams ∧
    (s.setTrunkParams p a b).groups = s.groups ∧ (s.setTrunkParams p a b).freeRows = s.freeRows ∧ (s.setTrunkParams p a b).cells
    = s.cells ∧ (s.setTrunkParams p a b).freeCells = s.freeCells ∧ (s.setTrunkParams p a b).lastTrunk = s.lastTrunk ∧
    (s.setTrunkParams p a b).softPending = s.softPending ∧ (s.setTrunkParams p a b).log = s.log ∧ (s.setTrunkParams p a
    b).alertMask = s.alertMask ∧ (s.setTrunkParams p a b).cause = s.cause ∧ (s.setTrunkParams p a b).softCount = s.softCount ∧
    (s.setTrunkParams p a b).draws = s.draws ∧ (∀ j, (s.setTrunkParams p a b).node j = s.node j) ∧ (∀ j, (s.setTrunkParams p a
    b).stream j = s.stream j) ∧ (∀ j, (s.setTrunkParams p a b).group j = s.group j) ∧ (∀ j, (s.setTrunkParams p a b).cell j =
    s.cell j) := by
  unfold State.setTrunkParams
  dsimp only
  (repeat' split) <;> simp

@[simp] theorem State.clearCounters_frame (s : State) (o : Owner):
    (s.clearCounters o).pending = s.pending ∧ (s.clearCounters o).hold = s.hold ∧ (s.clearCounters o).resetNLow = s.resetNLow ∧
    (s.clearCounters o).time = s.time ∧ (s.clearCounters o).lastNode = s.lastNode ∧ (s.clearCounters o).intake = s.intake ∧
    (s.clearCounters o).freeRows = s.freeRows ∧ (s.clearCounters o).cells = s.cells ∧ (s.clearCounters o).freeCells =
    s.freeCells ∧ (s.clearCounters o).lastTrunk = s.lastTrunk ∧ (s.clearCounters o).softPending = s.softPending ∧
    (s.clearCounters o).log = s.log ∧ (s.clearCounters o).alertMask = s.alertMask ∧ (s.clearCounters o).cause = s.cause ∧
    (s.clearCounters o).softCount = s.softCount ∧ (s.clearCounters o).draws = s.draws ∧ (∀ j, (s.clearCounters o).cell j =
    s.cell j) := by
  cases o <;> simp [State.clearCounters]

end Sys2Proof.Machine
end

