-- ==== Sys2Proof/Laws/Waits.lean ====
section
/-! SUPPORT. Credit waits and the engine's taking: what one event does to the starve timers (R125), when it does nothing to them, and
what a served request comes to (R139, R140). -/

namespace Sys2Proof.Machine

/-! ### Writing back what is there -/

@[simp] theorem State.setNode_node (s : State) (p : NodeId) : s.setNode p (s.node p) = s := by
  simp [State.setNode, State.node]

@[simp] theorem State.setStream_stream (s : State) (i : StreamId) : s.setStream i (s.stream i) = s := by
  simp [State.setStream, State.stream]

@[simp] theorem State.setGroup_group (s : State) (g : GroupId) : s.setGroup g (s.group g) = s := by
  simp [State.setGroup, State.group]

@[simp] theorem State.setTrunk_trunk (s : State) (p : TrunkId) : s.setTrunk p (s.trunk p) = s := by
  simp [State.setTrunk, State.trunk]

/-- A change that leaves the trunk port as it is changes nothing. -/
theorem State.modTrunk_id (s : State) (p : TrunkId) (f : Trunk → Trunk) (h : f (s.trunk p) = s.trunk p) : s.modTrunk p f = s := by
  simp [State.modTrunk, h]

/-- A change that leaves the node port as it is changes nothing. -/
theorem State.modNode_id (s : State) (p : NodeId) (f : NodePort → NodePort) (h : f (s.node p) = s.node p) : s.modNode p f = s := by
  simp [State.modNode, h]

/-- A change that leaves the group as it is changes nothing. -/
theorem State.modGroup_id (s : State) (g : GroupId) (f : Group → Group) (h : f (s.group g) = s.group g) : s.modGroup g f = s := by
  simp [State.modGroup, h]

/-! ### Two changes of one piece -/

@[simp] theorem State.modTrunk_modTrunk (s : State) (p : TrunkId) (f h : Trunk → Trunk) :
    (s.modTrunk p f).modTrunk p h = s.modTrunk p fun x => h (f x) := by
  simp [State.modTrunk, State.setTrunk, State.trunk]

@[simp] theorem State.modNode_modNode (s : State) (p : NodeId) (f h : NodePort → NodePort) :
    (s.modNode p f).modNode p h = s.modNode p fun x => h (f x) := by
  simp [State.modNode, State.setNode, State.node]

@[simp] theorem State.modGroup_modGroup (s : State) (g : GroupId) (f h : Group → Group) :
    (s.modGroup g f).modGroup g h = s.modGroup g fun x => h (f x) := by
  simp [State.modGroup, State.setGroup, State.group]

@[simp] theorem State.modStream_modStream (s : State) (i : StreamId) (f h : Stream → Stream) :
    (s.modStream i f).modStream i h = s.modStream i fun x => h (f x) := by
  simp [State.modStream, State.setStream, State.stream]

/-- Two changes of a trunk port agree when they agree on the port. -/
theorem State.modTrunk_congr (s : State) (p : TrunkId) (f h : Trunk → Trunk) (e : f (s.trunk p) = h (s.trunk p)) :
    s.modTrunk p f = s.modTrunk p h := by
  simp [State.modTrunk, e]

/-- Two changes of a node port agree when they agree on the port. -/
theorem State.modNode_congr (s : State) (p : NodeId) (f h : NodePort → NodePort) (e : f (s.node p) = h (s.node p)) :
    s.modNode p f = s.modNode p h := by
  simp [State.modNode, e]

/-- Two changes of a group agree when they agree on the group. -/
theorem State.modGroup_congr (s : State) (g : GroupId) (f h : Group → Group) (e : f (s.group g) = h (s.group g)) :
    s.modGroup g f = s.modGroup g h := by
  simp [State.modGroup, e]

/-- Two changes of a stream entry agree when they agree on the entry. -/
theorem State.modStream_congr (s : State) (i : StreamId) (f h : Stream → Stream) (e : f (s.stream i) = h (s.stream i)) :
    s.modStream i f = s.modStream i h := by
  simp [State.modStream, e]

/-! ### Credit waits (R125) -/

/-- A credit wait depends on the port's link and balance and on its group's queue alone. -/
theorem State.creditWait_congr (s t : State) (p : TrunkId) (h1 : (t.trunk p).link = (s.trunk p).link)
    (h2 : (t.trunk p).credit = (s.trunk p).credit) (h3 : (t.group p).queue = (s.group p).queue) :
    t.creditWait p = s.creditWait p := by
  simp [State.creditWait, Group.headSending, h1, h2, h3]

/-- The starve timer after one event, given whether a wait held before it. -/
theorem State.settleWait_eq (s : State) (was : Bool) (p : TrunkId) :
    s.settleWait was p = s.modTrunk p fun x =>
      { x with
        starveTimer :=
          if was = false ∧ s.creditWait p = true ∧ x.starveLimit ≠ 0 ∧ x.starveLogged = false then some (s.starveExpiry p)
          else if was = true ∧ s.creditWait p = false then none
          else x.starveTimer } := by
  unfold State.settleWait
  cases was <;> cases h : s.creditWait p <;> simp
  · exact (s.modTrunk_id p _ rfl).symm
  · split
    · next h' => exact s.modTrunk_congr _ _ _ (by simp [h'])
    · next h' => exact (s.modTrunk_id p _ (by simp [h'])).symm
  · exact (s.modTrunk_id p _ rfl).symm

/-- An event that neither begins nor ends a credit wait leaves the starve timers alone. -/
theorem State.withWaits_of_same (s : State) (f : State → State) (h : ∀ q, (f s).creditWait q = s.creditWait q) :
    s.withWaits f = f s := by
  have step : ∀ (t : State) (q : TrunkId), t.settleWait (t.creditWait q) q = t := fun t q => by
    rw [State.settleWait_eq]
    refine t.modTrunk_id q _ ?_
    cases t.creditWait q <;> simp
  unfold State.withWaits
  rw [← h 0, ← h 1, step, step]

/-- Only the event's outcome on this state matters. -/
theorem State.withWaits_congr (s : State) (f h : State → State) (e : f s = h s) : s.withWaits f = s.withWaits h := by
  simp [State.withWaits, e]

/-- What one event does to a starve timer, and that it changes nothing else beside the event's own effect (R125). -/
theorem State.withWaits_spec (s : State) (f : State → State) :
    s.withWaits f = { f s with trunks := (s.withWaits f).trunks } ∧
    ∀ p, (s.withWaits f).trunk p = { (f s).trunk p with
      starveTimer :=
        if s.creditWait p = false ∧ (f s).creditWait p = true ∧ ((f s).trunk p).starveLimit ≠ 0 ∧ ((f s).trunk p).starveLogged = false
        then some ((f s).time + BitVec.ofNat 32 (((f s).trunk p).starveLimit * 1000))
        else if s.creditWait p = true ∧ (f s).creditWait p = false then none
        else ((f s).trunk p).starveTimer } := by
  refine ⟨?_, fun p => ?_⟩
  · apply State.ext_fields <;> simp [State.withWaits]
  · have hp : p = 0 ∨ p = 1 := by revert p; decide
    have hw : ∀ t : State, ∀ b : Bool, (t.settleWait b 0).creditWait 1 = t.creditWait 1 := fun t b => by
      rw [State.settleWait_eq]
      exact State.creditWait_congr _ _ _ (by simp [State.trunk_modTrunk]) (by simp [State.trunk_modTrunk]) (by simp)
    unfold State.withWaits
    rcases hp with rfl | rfl
    · rw [State.settleWait_eq, State.trunk_modTrunk_of_ne _ _ _ _ (by decide), State.settleWait_eq]
      simp [State.starveExpiry]
    · rw [State.settleWait_eq, State.trunk_modTrunk_self, hw, State.settleWait_eq]
      simp [State.trunk_modTrunk, State.starveExpiry]

/-- Fields other than the trunk ports, after an event. -/
@[simp] theorem State.withWaits_frame (s : State) (f : State → State) :
    (s.withWaits f).pending = (f s).pending ∧ (s.withWaits f).hold = (f s).hold ∧ (s.withWaits f).resetNLow = (f s).resetNLow ∧
    (s.withWaits f).time = (f s).time ∧ (s.withWaits f).nodes = (f s).nodes ∧ (s.withWaits f).lastNode = (f s).lastNode ∧
    (s.withWaits f).intake = (f s).intake ∧ (s.withWaits f).streams = (f s).streams ∧ (s.withWaits f).groups = (f s).groups ∧
    (s.withWaits f).freeRows = (f s).freeRows ∧ (s.withWaits f).cells = (f s).cells ∧
    (s.withWaits f).freeCells = (f s).freeCells ∧ (s.withWaits f).lastTrunk = (f s).lastTrunk ∧
    (s.withWaits f).softPending = (f s).softPending ∧ (s.withWaits f).log = (f s).log ∧
    (s.withWaits f).alertMask = (f s).alertMask ∧ (s.withWaits f).cause = (f s).cause ∧
    (s.withWaits f).softCount = (f s).softCount ∧ (s.withWaits f).draws = (f s).draws ∧
    (∀ j, (s.withWaits f).node j = (f s).node j) ∧ (∀ j, (s.withWaits f).stream j = (f s).stream j) ∧
    (∀ j, (s.withWaits f).group j = (f s).group j) ∧ (∀ j, (s.withWaits f).cell j = (f s).cell j) := by
  simp [State.withWaits]

/-! ### The engine's taking (R139, R140) -/

/-- The port that R139 chooses. -/
theorem State.Serves.nextTrunk {s : State} {p : TrunkId} {r : Request} {rest : List Request} (h : s.Serves p r rest) :
    s.nextTrunk = some p := by
  obtain ⟨_, h2, h3, h4, h5⟩ := h
  have e : (s.trunk p).eligible = true := by simp [Trunk.eligible, h3, h4]
  unfold State.nextTrunk
  rcases h5 with rfl | ⟨rfl, h5⟩
  · simp [h2, e]
  · have n : (s.trunk (s.lastTrunk + 1)).eligible = false := by
      rcases h5 with h5 | h5 <;> simp [Trunk.eligible, h5]
    simp [h2, n, e]

/-- A served request of the command's own kind: its effects and its reply, as one event. -/
theorem State.takeRequest_of_serves {s : State} {p : TrunkId} {r : Request} {rest : List Request} (h : s.Serves p r rest)
    (mine : Request → Bool) (act : State → TrunkId → Request → Answer) :
    s.takeRequest mine act =
      if mine r then s.withWaits fun _ =>
        ((act (s.afterTaking p rest) p r).state.modTrunk p fun x =>
          { x with replies := x.replies ++ [(act (s.afterTaking p rest) p r).reply r] }).choose p
      else s := by
  have held : s.held = false := by simp [State.held, h.1]
  have body : ∀ f : State → State, f s = s → s.withWaits f = s := fun f e => by
    rw [s.withWaits_of_same f fun q => by rw [e], e]
  unfold State.takeRequest State.unlessHeld
  rw [if_neg (by simp [held])]
  by_cases m : mine r
  · rw [if_pos m]
    refine s.withWaits_congr _ _ ?_
    simp only [h.nextTrunk, h.2.2.1, m, if_true]
    rfl
  · rw [if_neg m]
    refine body _ ?_
    simp only [h.nextTrunk, h.2.2.1, m]
    rfl

/-- Where the engine makes no taking, a request command changes nothing. -/
theorem State.takeRequest_of_none {s : State} (h : s.nextTrunk = none) (mine : Request → Bool)
    (act : State → TrunkId → Request → Answer) : s.takeRequest mine act = s := by
  have body : ∀ f : State → State, f s = s → s.withWaits f = s := fun f e => by
    rw [s.withWaits_of_same f fun q => by rw [e], e]
  unfold State.takeRequest State.unlessHeld
  split
  · rfl
  · exact body _ (by simp only [h])

end Sys2Proof.Machine
end

