-- ==== Sys2Proof/Laws/Arrivals.lean ====
section
/-! SUPPORT. What the operations of the intake can do: the arbiter's search (R17), the position of an instant (R57), the governing bank
(R41), the slot found in it (R42, R66), and the classification as far as a message that passes steps 1 to 6 (R63 to R66). -/

namespace Sys2Proof.Machine

/-- The arbiter's search finds the first port, from the one after the last-served port on, that `P` holds of. -/
theorem searchOrder_find (last : NodeId) (P : NodeId → Bool) (p : NodeId) (hp : P p = true)
    (hq : ∀ q : NodeId, q - last - 1 < p - last - 1 → P q = false) : (searchOrder last).find? P = some p := by
  have key : ∀ k : Fin 16, P (last + 1 + k) = true → (∀ j : Fin 16, j < k → P (last + 1 + j) = false) →
      (searchOrder last).find? P = some (last + 1 + k) := by
    intro k h1 h2
    simp only [searchOrder, List.find?_map]
    have : (List.finRange 16).find? (P ∘ fun k => last + 1 + k) = some k := by
      rw [List.find?_eq_some_iff_getElem]
      refine ⟨by simpa using h1, k.val, by simp, by simp, fun j hj => ?_⟩
      simpa using h2 ⟨j, by omega⟩ hj
    rw [this]; rfl
  have e1 : last + 1 + (p - last - 1) = p := by clear * -; revert last p; decide
  have := key (p - last - 1) (by rw [e1]; exact hp) fun j hj => by
    apply hq
    have : last + 1 + j - last - 1 = j := by clear * -; revert last j; decide
    rw [this]; exact hj
  rw [this, e1]

/-! ### Position (R57) -/

theorem position_late {e n : Instant} {d : Nat} (hd : d ≤ 2147483648) (h : 2147483648 ≤ (n - e).toNat) :
    position e d n = .late := by
  unfold position distance
  rw [if_neg (by omega), if_neg (by omega)]

theorem position_early {e n : Instant} {d : Nat} (hd : d ≤ (n - e).toNat) (h : (n - e).toNat ≤ 2147483647) :
    position e d n = .early := by
  unfold position distance
  rw [if_neg (by omega), if_pos (by omega)]

theorem position_inWindow {e n : Instant} {d : Nat} (hd : (n - e).toNat < d) : position e d n = .inWindow := by
  unfold position distance
  rw [if_pos (by omega)]

/-! ### Banks and slots (R41, R42) -/

theorem Templates.governing_of_governs {t : Templates} {n : Instant} {gen : Generation} {slots : List Slot}
    (h : t.Governs n gen slots) : t.governing n = (gen, slots) := by
  rcases h with ⟨a, ha, hn, rfl, rfl⟩ | ⟨hn, rfl, rfl⟩
  · have : atOrAfter n a.switchAt = true := by rcases hn with hn | hn <;> simp [hn, atOrAfter]
    simp only [Templates.governing, ha]
    rw [if_pos this]
  · simp only [Templates.governing]
    cases ha : t.armed with
    | none => rfl
    | some a =>
      have hx := not_or.mp (hn a ha)
      have : atOrAfter n a.switchAt = false := by simp [atOrAfter, hx]
      dsimp only
      rw [this]; rfl

theorem namesStream_eq_false {slots : List Slot} {i : StreamId} : namesStream slots i = false ↔ ∀ x ∈ slots, x.stream ≠ i := by
  simp [namesStream]

theorem findSlot_none {slots : List Slot} {i : StreamId} (h : ∀ x ∈ slots, x.stream ≠ i) : findSlot slots i = none := by
  simp only [findSlot, List.find?_eq_none]
  intro x hx
  simpa using h _ (List.fst_mem_of_mem_zipIdx hx)

theorem findSlot_some {slots : List Slot} {i : StreamId} {k : Nat} {x : Slot} (h : slots[k]? = some x) (e : x.stream = i)
    (hj : ∀ (j : Nat) (y : Slot), j < k → slots[j]? = some y → y.stream ≠ i) : findSlot slots i = some (x, k) := by
  obtain ⟨hk, hx⟩ := List.getElem?_eq_some_iff.mp h
  simp only [findSlot, List.find?_eq_some_iff_getElem]
  refine ⟨by simpa using e, k, by simpa using hk, by simp [hx], fun j hjk => ?_⟩
  simpa using hj j slots[j] hjk (by simp)

/-! ### The classification (R63 to R66) -/

/-- A message that passes steps 1 to 4 goes on in its stream's group. -/
theorem State.classify_of_routes {s : State} {p : NodeId} {m : SampleMsg} {g : GroupId} (h : s.Routes p m g) :
    s.classify p m = s.classifyIn p g m := by
  obtain ⟨h1, h2, h3, h4⟩ := h
  simp [State.classify, h1, h2, h3, h4]

/-- A message that passes steps 1 to 6 goes on with its adjusted instant, its slot and the generation that governs it. -/
theorem State.classify_of_places {s : State} {p : NodeId} {m : SampleMsg} {g : GroupId} {n : Instant} {k : Nat} {gen : Generation}
    (h : s.Places p m g n k gen) : s.classify p m = s.synchronise p g n k gen m := by
  obtain ⟨h1, h2, rfl, slots, x, h3, hk, hx, hj, hc⟩ := h
  have hadj : (s.stream m.stream).adjust m.instant = s.adjusted m := rfl
  rw [State.classify_of_routes h1]
  simp [State.classifyIn, h2, hadj, Group.judgeSlot, Templates.governing_of_governs h3, findSlot_some hk hx hj, Slot.due, hc]

/-- A message in the window of a set cursor goes on to step 10. -/
theorem State.synchronise_of_inWindow {s : State} {p : NodeId} {g : GroupId} {e n : Instant} {k : Nat} {gen : Generation}
    {m : SampleMsg} (hc : (s.group g).cursor = some e) (hd : (n - e).toNat < (s.group g).depth) :
    s.synchronise p g n k gen m = s.placeMessage g n k gen m := by
  simp only [State.synchronise, hc, State.placeAgainst, position_inWindow hd]

theorem Group.instant_ne_of_rowAt_none {x : Group} {n : Instant} (h : x.rowAt n = none) : ∀ r ∈ x.rows, r.instant ≠ n := by
  simp only [Group.rowAt, List.find?_eq_none] at h
  intro r hr; simpa using h r hr

/-- A new row's place does not depend on what its slots hold. -/
theorem map_insertRow {e : Instant} {r r' : Row} {f : Row → Row} (hf : f r = r') (hi : r'.instant = r.instant) {rows : List Row}
    (h : ∀ x ∈ rows, f x = x) : (insertRow e r rows).map f = insertRow e r' rows := by
  induction rows with
  | nil => simp [insertRow, hf]
  | cons x xs ih =>
    have hx := h x (by simp)
    have hxs : xs.map f = xs := by
      conv_rhs => rw [← List.map_id xs]
      exact List.map_congr_left fun y hy => h y (by simp [hy])
    have := ih fun y hy => h y (by simp [hy])
    simp only [insertRow, hi]
    split <;> simp [hf, hx, hxs, this]

end Sys2Proof.Machine
end

