-- ==== Sys2Proof/Laws/Closes.lean ====
section
/-! SUPPORT. What the operations of the close units can do to streams: frame references (R32), the monitor steps of one entry and of a
whole record (R25 to R27, R91), and the period of the due count (R40, R71). -/

namespace Sys2Proof.Machine

/-- The frame references of a stream rise by the number of entries that name it, and nothing else of any stream changes. -/
theorem State.addRefs_stream (s : State) (es : List Entry) (i : StreamId) :
    (s.addRefs es).stream i = { s.stream i with refs := (s.stream i).refs + (es.map Entry.stream).count i } := by
  unfold State.addRefs
  induction es generalizing s with
  | nil => simp
  | cons e es ih =>
    simp only [List.foldl_cons, ih, State.stream_modStream, List.map_cons, List.count_cons]
    by_cases h : e.stream = i
    · subst h; simp; omega
    · simp [h]

/-- The frame references of a stream fall by the number of entries that name it, and nothing else of any stream changes. -/
theorem State.dropRefs_stream (s : State) (es : List Entry) (i : StreamId) :
    (s.dropRefs es).stream i = { s.stream i with refs := (s.stream i).refs - (es.map Entry.stream).count i } := by
  unfold State.dropRefs
  induction es generalizing s with
  | nil => simp
  | cons e es ih =>
    simp only [List.foldl_cons, ih, State.stream_modStream, List.map_cons, List.count_cons]
    by_cases h : e.stream = i
    · subst h; simp; omega
    · simp [h]

/-- A monitor step leaves every other stream as it is. -/
theorem State.stepMonitor_stream_of_ne (s : State) (g : GroupId) (n : Instant) {e : Entry} {i : StreamId} (h : e.stream ≠ i) :
    (s.stepMonitor g n e).stream i = s.stream i := by
  unfold State.stepMonitor
  split
  · split
    · simp only [State.stepReal]; split <;> simp [State.stream_modStream_of_ne, h]
    · simp only [State.stepFill]; split <;> simp [State.countStream, State.stream_modStream_of_ne, h]
  · rfl

/-- A monitor step leaves the frame references, the binding and the settings of its stream. -/
theorem State.stepMonitor_stream_kept (s : State) (g : GroupId) (n : Instant) (e : Entry) (i : StreamId) :
    ((s.stepMonitor g n e).stream i).refs = (s.stream i).refs ∧ ((s.stepMonitor g n e).stream i).group = (s.stream i).group ∧
      ((s.stepMonitor g n e).stream i).holdStore = (s.stream i).holdStore ∧
      ((s.stepMonitor g n e).stream i).length = (s.stream i).length := by
  by_cases h : e.stream = i
  · subst h
    unfold State.stepMonitor
    split
    · split
      · simp only [State.stepReal]; split <;> simp
      · simp only [State.stepFill]; split <;> simp [State.countStream]
    · exact ⟨rfl, rfl, rfl, rfl⟩
  · simp [State.stepMonitor_stream_of_ne _ _ _ h]

/-- A record's monitor steps reach each entry once. -/
theorem stepOrder_perm (k : Nat) (entries : List Entry) : (stepOrder k entries).Perm entries :=
  List.perm_insertionSort _ _

/-- A record's monitor steps leave every stream that it does not name. -/
theorem State.stepMonitors_stream_of_not_named (s : State) (g : GroupId) (n : Instant) {entries : List Entry} {i : StreamId}
    (h : ∀ e ∈ entries, e.stream ≠ i) : (s.stepMonitors g n entries).stream i = s.stream i := by
  have key : ∀ (es : List Entry) (t : State), (∀ e ∈ es, e.stream ≠ i) →
      (es.foldl (fun t e => t.stepMonitor g n e) t).stream i = t.stream i := by
    intro es
    induction es with
    | nil => intro t _; rfl
    | cons e es ih =>
      intro t hh
      rw [List.foldl_cons, ih _ fun x hx => hh x (by simp [hx]), State.stepMonitor_stream_of_ne _ _ _ (hh e (by simp))]
  unfold State.stepMonitors
  rw [key _ _ fun e he => h e ((stepOrder_perm _ _).mem_iff.mp he)]
  rfl

/-- The due count of a lawful list repeats every 8 instants. -/
theorem dueCount_period {slots : List Slot} (h : ∀ x ∈ slots, x.Lawful) {n m : Instant} (e : n.toNat % 8 = m.toNat % 8) :
    dueCount slots n = dueCount slots m := by
  have key : ∀ x ∈ slots, x.due n = x.due m := by
    intro x hx
    obtain ⟨h1, -⟩ := h x hx
    simp only [Slot.due]
    rcases h1 with h1 | h1 | h1 | h1 <;> rw [h1] <;> congr 1 <;> omega
  unfold dueCount dueSlots
  congr 1
  exact List.filter_congr fun x hx => key _ (List.fst_mem_of_mem_zipIdx hx)

end Sys2Proof.Machine
end

