-- ==== Sys2Proof/Laws/Lines.lean ====
section
/-! SUPPORT. What the ends and cuts of a unit do to a trunk port (R117, R119, R170), what the release of PORn can do (R153, R167), and
where a message goes on that has waited for a forced advance (R71). -/

namespace Sys2Proof.Machine

/-- The line of a unit sent whole, as the part writes it and as the statements do. -/
theorem TxUnit.sentSymbols_idle (u : TxUnit) : u.sentSymbols ++ idleSequence = u.wholeOnLine := by
  simp [TxUnit.sentSymbols, TxUnit.wholeOnLine, idleSequence]

/-- The end of a unit frees the transmitter and records the unit as sent whole; nothing else of the port changes. -/
theorem Trunk.endUnit_of_sending {x : Trunk} {u : TxUnit} (h : x.tx = some u) :
    x.endUnit = { x with tx := none, lastClosed := u.wholeOnLine } := by
  simp [Trunk.endUnit, h, TxUnit.sentSymbols_idle]

/-- A cut frees the transmitter and records what went out, if a unit was in transmission; nothing else of the port changes. -/
theorem Trunk.cutUnit_eq (x : Trunk) (k : Nat) : x.cutUnit k = { x with tx := none, lastClosed := x.closedByCut k } := by
  unfold Trunk.cutUnit Trunk.closedByCut
  cases h : x.tx with
  | none => simp [← h]
  | some u => simp [TxUnit.cutSymbols, TxUnit.cutOnLine, idleSequence]

/-- What the leaving of UP does to the port itself (R119, R121). -/
theorem Trunk.leaveUp_eq (x : Trunk) (k : Nat) (next : Link) :
    x.leaveUp k next =
      { x with
        tx := none, lastClosed := x.closedByCut k, link := next
        aligningRun := if next = .aligning then 0 else x.aligningRun
        credit := 0, requests := [], replies := [], markDebt := 0, markTimer := none, starveTimer := none } := by
  rw [Trunk.leaveUp, Trunk.cutUnit_eq]

/-- A trunk port at its reset values, and at those of a soft reset (R117). -/
theorem Trunk.atReset_eq (x : Trunk) (k : Nat) :
    x.atReset k = { Trunk.initial with line := x.line, lastClosed := x.closedByCut k } := by rw [Trunk.atReset, Trunk.cutUnit_eq]

theorem Trunk.atSoftReset_eq (x : Trunk) (k : Nat) :
    x.atSoftReset k =
      { Trunk.initial with
        line := x.line, lastClosed := x.closedByCut k, markInterval := x.markInterval, starveLimit := x.starveLimit } := by
  rw [Trunk.atSoftReset, Trunk.atReset_eq]

/-- The head in transmission, as the group reports it and as the transmitter finds it. -/
theorem Group.sendingHead_eq_some {x : Group} {head : FrameRecord} {rest : List FrameRecord} :
    x.sendingHead = some (head, rest) ↔ x.queue = head :: rest ∧ head.inTransmission = true := by
  unfold Group.sendingHead
  cases h : x.queue with
  | nil => simp
  | cons r t => by_cases hr : r.inTransmission = true <;> simp [hr] <;> (intro e; subst e; simp [hr])

theorem Group.sendingHead_eq_none {x : Group} : x.sendingHead = none ↔ x.headSending = false := by
  unfold Group.sendingHead Group.headSending
  cases x.queue <;> simp

/-- PORn's release frees the part, or takes the pin reset where RESET_N is low. -/
theorem State.releasePower_cases (s : State) :
    (s.resetNLow = false ∧ s.releasePower = s.release) ∨ (s.resetNLow = true ∧ s.releasePower = s.pinReset) := by
  cases h : s.resetNLow <;> simp [State.releasePower, h]

/-- A message that has waited is placed with the words it carries, or with as many more as its stream's length asks for; its length is
not judged again. -/
theorem State.placeWaiting_cases (s : State) (w : WaitingMsg) (k : Nat) (gen : Generation) :
    ((s.stream w.msg.stream).length ≤ w.msg.payload.length ∧
        s.placeWaiting w k gen = s.placeMessage w.group w.instant k gen w.msg) ∨
      (w.msg.payload.length < (s.stream w.msg.stream).length ∧ ∃ more : List Word,
        w.msg.payload.length + more.length = (s.stream w.msg.stream).length ∧
        s.placeWaiting w k gen =
          ({ s with draws := s.draws + 1 } : State).placeMessage w.group w.instant k gen
            { w.msg with payload := w.msg.payload ++ more }) := by
  by_cases h : w.msg.payload.length < (s.stream w.msg.stream).length
  · refine Or.inr ⟨h, _, ?_, by rw [State.placeWaiting, if_pos h, State.padPayload]⟩
    simp only [List.length_map, List.length_range]; omega
  · exact Or.inl ⟨by omega, by rw [State.placeWaiting, if_neg h]⟩

end Sys2Proof.Machine
end

