-- ==== Sys2Proof/WellFormed.lean ====
section
/-! DEFINITION. When a command's operands are ones a line can carry.  The ranges of ports, groups and instants are in the
types; what is left to check is that the symbols a command carries are the symbols of one unit, or of one run of stray
symbols, as R8 and R170 delimit them. -/

namespace Sys2Proof

/-- A delimiter: it opens or closes a unit (R170), so it never stands inside one (R8). -/
def LineSymbol.isDelimiter : LineSymbol → Bool
  | .start | .stop | .abort => true
  | .data _ | .idle | .undecodable => false

/-- A unit is "everything between a start delimiter and the next delimiter" (R8). -/
def unitWellFormed (symbols : List LineSymbol) : Bool :=
  symbols.all fun x => !x.isDelimiter

/-- No START stands in the run, and an END or ABORT only as its last symbol (R170). -/
def delimitersWellPlaced : List LineSymbol → Bool
  | [] => true
  | [x] => x != .start
  | x :: y :: rest => !x.isDelimiter && delimitersWellPlaced (y :: rest)

/-- Four consecutive IDLE symbols stand somewhere in the run: an idle sequence (R170). -/
def holdsIdleSequence : List LineSymbol → Bool
  | .idle :: .idle :: .idle :: .idle :: _ => true
  | _ :: rest => holdsIdleSequence rest
  | [] => false

/-- A run of stray symbols is not empty, holds no idle sequence and no START, and an END or ABORT found outside a unit ends
it (R170). -/
def strayWellFormed (symbols : List LineSymbol) : Bool :=
  !symbols.isEmpty && delimitersWellPlaced symbols && !holdsIdleSequence symbols

/-- The check on a command.  Every other operand is exact by its type. -/
def Instr.wellFormed : Instr → Bool
  | .nodeUnitEnd _ symbols | .trunkUnitEnd _ symbols => unitWellFormed symbols
  | .nodeStraySymbol _ symbols | .trunkStraySymbol _ symbols => strayWellFormed symbols
  | .powerOnReset | .powerOnResetRelease | .pinReset | .pinResetRelease => true
  | .nodeSignalPresent _ | .nodeSignalLoss _ | .nodeIdleSequence _ | .nodeTruncatedUnit _ _ => true
  | .intakeTaking | .forcedAdvance | .rowDeadlineExpiry _ _ | .closeAttempt _ => true
  | .trunkSignalPresent _ | .trunkSignalLoss _ | .trunkIdleSequence _ | .trunkTruncatedUnit _ _ => true
  | .starveTimerExpiry _ | .markTimerExpiry _ => true
  | .frameTransmissionEnd _ | .markTransmissionEnd _ | .replyTransmissionEnd _ => true
  | .ping | .readStream | .writeStream => true
  | .templateLoad | .templateCopy | .templateRead | .templateCommit | .templateCancel => true
  | .groupSet | .groupStart | .groupStop | .groupAbort | .groupStatus => true
  | .rowList | .portStatus | .portSet | .trunkSet | .readCounters => true
  | .faultRead | .faultTake | .faultMaskRead | .faultMaskWrite => true
  | .reset | .undefinedRequest => true

end Sys2Proof
end

