-- ==== Sys2Proof/Tests/Slice0.lean ====
section
/-! SUPPORT. The package's own tests: ill-formed commands that the check refuses, examples of the manual, one step each, and for every
statement with hypotheses a state and operands that meet all of them (`test_meets_<statement>`). -/

open Sys2Proof Sys2Proof.Machine

namespace Sys2Proof.Tests

-- One after another: each kernel evaluation waits for the whole environment, and many at once would each hold a thread.
set_option Elab.async false

/-! ### Well-formedness (R8, R170) -/

theorem test_unit_with_delimiter_refused : Instr.wellFormed (.nodeUnitEnd 0 [.data 1, .start]) = false := by decide
theorem test_trunk_unit_with_end_refused : Instr.wellFormed (.trunkUnitEnd 0 [.stop]) = false := by decide
theorem test_unit_with_idle_accepted : Instr.wellFormed (.nodeUnitEnd 0 [.data 1, .idle, .undecodable]) = true := by decide
theorem test_empty_stray_refused : Instr.wellFormed (.nodeStraySymbol 0 []) = false := by decide
theorem test_stray_with_start_refused : Instr.wellFormed (.trunkStraySymbol 0 [.data 1, .start]) = false := by decide
theorem test_stray_with_inner_end_refused : Instr.wellFormed (.nodeStraySymbol 0 [.stop, .data 1]) = false := by decide
theorem test_stray_with_idle_sequence_refused :
    Instr.wellFormed (.nodeStraySymbol 0 [.data 1, .idle, .idle, .idle, .idle]) = false := by decide
theorem test_stray_ended_by_abort_accepted : Instr.wellFormed (.trunkStraySymbol 1 [.idle, .data 1, .abort]) = true := by decide

/-! ### No word spells a command -/

theorem test_no_word_spells_a_command (nbits w : Nat) : decodeTableWord nbits w = none := rfl
theorem test_fetch_word_changes_nothing (s : State) (nbits w : Nat) : s.withFetchWord nbits w = s := rfl

/-! ### Values and units -/

/-- R171: 'The nine bytes of the characters "1" to "9" give the value 10,673 (the bytes 41 and 177).' -/
theorem test_crc_check_value : crc16 [0x31, 0x32, 0x33, 0x34, 0x35, 0x36, 0x37, 0x38, 0x39] = 10673#16 := by decide +kernel

/-- R1: half-range. -/
theorem test_before_wraps : before 0xFFFFFFFF#32 1#32 = true := by decide
theorem test_half_range_is_neither : before 0#32 0x80000000#32 = false ∧ before 0x80000000#32 0#32 = false := by decide

/-- The symbols of a unit that carries these words and a good CRC. -/
def unit (words : List Word) : List LineSymbol := (unitBytes words).map LineSymbol.data

/-- A SAMPLE message of stream 3, instant 40, one word 7 (R172: stream in bits 31..26, length in bits 25..22). -/
def sampleUnit : List LineSymbol := unit [0x0C400000, 40, 7]

theorem test_sample_unit_is_good :
    judgeSample sampleUnit = .good { stream := 3, lengthField := 1, instant := 40, payload := [7] } := by decide +kernel

/-- A flipped bit fails the CRC check. -/
theorem test_flipped_bit_fails_crc : judgeSample (sampleUnit.set 3 (.data 1)) = .badCrc := by decide +kernel

/-- The length field 2 with one word of payload is malformed (R10). -/
theorem test_wrong_length_is_malformed : judgeSample (unit [0x0C800000, 40, 7]) = .badLength := by decide +kernel

/-- An IDLE inside a unit fails it, whatever its CRC (R170). -/
theorem test_idle_inside_fails_crc : judgeSample (sampleUnit.set 5 .idle) = .badCrc := by decide +kernel

/-- A CREDIT frame, mode add, count 5 (R174), and one with a count of 0, which is malformed. -/
theorem test_credit_unit : judgeTrunk (unit [0x08000001, 0x00050000]) = .credit .add 5 := by decide +kernel
theorem test_credit_add_of_zero_is_malformed : judgeTrunk (unit [0x08000001, 0]) = .badForm := by decide +kernel

/-- A REQUEST frame: tag 9, PING, no arguments (R174). -/
theorem test_request_unit : judgeTrunk (unit [0x09000001, 0x09010000]) = .request { tag := 9, name := 1, args := [] } := by
  decide +kernel

/-! ### Single steps -/

/-- The state after a command. -/
def after (c : Instr) (s : State) : State :=
  match exec c s with
  | .next t => t
  | .fault _ | .refused _ => s

/-- A node port in ALIGNING with this run, and one in UP. -/
def aligningNode (run : Nat) : State :=
  State.reset.modNode 0 fun x => { x with line := true, present := true, link := .aligning, aligningRun := run }
def upNode : State := State.reset.modNode 0 fun x => { x with line := true, present := true, link := .up }

/-- A trunk port in ALIGNING with this run, and TP0 in UP. -/
def aligningTrunk (run : Nat) : State :=
  State.reset.modTrunk 0 fun x => { x with line := true, link := .aligning, aligningRun := run }
def upTrunk (f : Trunk → Trunk) : State := State.reset.modTrunk 0 fun x => f { x with line := true, link := .up }

/-- TP0 in UP with a request at the head of its queue. -/
def asking (name : Byte) (args : List Word) : State := upTrunk fun x => { x with requests := [{ tag := 9, name := name, args := args }] }

theorem test_signal_starts_aligning : ((after (.nodeSignalPresent 0) State.reset).node 0).link = .aligning := by decide
theorem test_third_idle_stays_aligning : ((after (.nodeIdleSequence 0) (aligningNode 2)).node 0).link = .aligning := by decide
theorem test_fourth_idle_enters_up : ((after (.nodeIdleSequence 0) (aligningNode 3)).node 0).link = .up := by decide
theorem test_good_unit_is_placed : ((after (.nodeUnitEnd 0 sampleUnit) upNode).node 0).fifo.length = 1 := by decide +kernel
theorem test_truncated_unit_counts_nowhere :
    ((after (.nodeTruncatedUnit 0 .byStart) upNode).node 0).counters = (upNode.node 0).counters := by decide
theorem test_trunk_up_sends_a_mark :
    ((after (.trunkIdleSequence 0) (aligningTrunk 3)).trunk 0).tx.map TxUnit.kind = some .mark := by decide +kernel
theorem test_credit_is_added : ((after (.trunkUnitEnd 0 (unit [0x08000001, 0x00050000])) (upTrunk id)).trunk 0).credit = 5 := by
  decide +kernel

/-- R141: part code 1602 and revision 1 stand first among PING's results. -/
theorem test_ping_identity :
    (((after .ping (asking 1 [])).trunk 0).replies.map fun r => r.results.take 2) = [[1602, 1]] := by decide +kernel
theorem test_undefined_name_is_bad_opcode :
    ((after .undefinedRequest (asking 23 [])).trunk 0).replies.map Reply.status = [.badOpcode] := by decide +kernel
theorem test_start_without_template :
    ((after .groupStart (asking 10 [0])).trunk 0).replies.map Reply.status = [.noTemplate] := by decide +kernel
theorem test_depth_of_one_is_refused :
    ((after .groupSet (asking 9 [0, 1, 1])).trunk 0).replies.map Reply.status = [.badArgument] := by decide +kernel
theorem test_depth_of_two_is_written : ((after .groupSet (asking 9 [0, 1, 2])).group 0).depth = 2 := by decide +kernel
theorem test_mask_is_read : ((after .faultMaskRead (asking 21 [0])).trunk 0).replies.map Reply.results = [[0x60]] := by
  decide +kernel
theorem test_reset_becomes_pending : (after .reset (asking 22 [])).softPending = some 0 := by decide +kernel
theorem test_port_set_disables : ((after .portSet (asking 16 [1, 0])).node 0).enabled = false := by decide +kernel
theorem test_step_takes_the_front : (after .pinReset State.reset).hold = .pin := by decide
theorem test_idle_step_counts : State.tick State.reset = { State.reset with time := 1 } := by
  simp [State.tick, State.reset]

/-- R170: a unit that has ended went out between START and END, and an idle sequence follows it; a cut one ends in ABORT. -/
theorem test_ended_unit_on_the_line :
    ({ Trunk.initial with tx := some { kind := .mark, bytes := [7] } } : Trunk).endUnit.lastClosed
      = [.start, .data 7, .stop, .idle, .idle, .idle, .idle] := by decide
theorem test_cut_unit_on_the_line :
    (({ Trunk.initial with tx := some { kind := .mark, bytes := [7, 8] } } : Trunk).cutUnit 1).lastClosed
      = [.start, .data 7, .abort, .idle, .idle, .idle, .idle] := by decide

/-! ### States that meet the statements' hypotheses -/

/-- The part held by a reset pin. -/
def held (h : ResetHold) : State := { State.reset with hold := h }

/-- Group 0, RUNNING, with one slot: stream 3 at every instant. -/
def runningGroup : Group :=
  { Group.initial with
    state := .running
    templates := { Templates.initial with activeSlots := [{ stream := 3, cadence := 1, phase := 0 }] } }

/-- Stream 3 enabled on NP0 and bound to group 0, which merges it. -/
def merging (f : Group → Group) : State :=
  (State.reset.modStream 3 fun x => { x with enabled := true, group := some 0, state := .waiting }).setGroup 0 (f runningGroup)

/-- The message of stream 3 for instant 40. -/
def message : SampleMsg := { stream := 3, lengthField := 1, instant := 40, payload := [7] }

/-- An open row with one slot. -/
def openRow (n : Instant) (slot : Option CellId) (expired : Bool) : Row :=
  { rowId := 0, instant := n, generation := 0, deadline := 2000, expired := expired, slotMap := [slot] }

/-- A frame record with one entry. -/
def frame (content : Content) (sending : Bool) : FrameRecord :=
  { instant := 40, generation := 0, reason := .expired, entries := [{ slot := 0, stream := 3, content := content }],
    holdMiss := false, inTransmission := sending }

/-- An ARMED bank with an empty list. -/
def armedAt (n : Instant) : Templates := { runningGroup.templates with armed := some { generation := 1, switchAt := n } }

/-- TP0 sends a unit of this kind. -/
def sending (kind : TxKind) (x : Trunk) : Trunk := { x with tx := some { kind := kind, bytes := [] } }

theorem merging_places (f : Group → Group) (h : (f runningGroup).templates = runningGroup.templates)
    (hs : (f runningGroup).state.isStopped = false) : (merging f).Places 0 message 0 40 0 0 := by
  have hg : (merging f).group 0 = f runningGroup := rfl
  refine ⟨⟨rfl, rfl, rfl, rfl⟩, by rw [hg]; exact hs, rfl, runningGroup.templates.activeSlots,
    { stream := 3, cadence := 1, phase := 0 }, ?_, rfl, rfl, ?_, rfl⟩
  · rw [hg, h]
    exact Or.inr ⟨by intro a ha; simp [runningGroup, Templates.initial] at ha, rfl, rfl⟩
  · intro j y hj; exact absurd hj (Nat.not_lt_zero j)

/-- What the classification finds rests on the stream table and the groups alone. -/
theorem places_of_same {s t : State} {p : NodeId} {m : SampleMsg} {g : GroupId} {n : Instant} {k : Nat} {gen : Generation}
    (hs : t.streams = s.streams) (hg : t.groups = s.groups) (h : s.Places p m g n k gen) : t.Places p m g n k gen := by
  simpa only [State.Places, State.Routes, State.adjusted, State.stream, State.group, hs, hg] using h

/-! ### Hypotheses: the machine, resets, node ports -/

theorem test_meets_StepRunsTheFrontCommand :
    ({ State.reset with pending := [.intakeTaking] } : State).pending = .intakeTaking :: [] ∧ State.reset.pending = [] := ⟨rfl, rfl⟩

theorem test_meets_ResetPinsAreTaken : State.reset.hold = .none ∧ (held .pin).hold ≠ .none := by decide

/-- The part held by PORn, with RESET_N released and with RESET_N low. -/
theorem test_meets_HeldPartAndItsRelease :
    (held .power).hold = .power ∧ (held .power).resetNLow = false
      ∧ ({ held .power with resetNLow := true } : State).hold = .power ∧ ({ held .power with resetNLow := true } : State).resetNLow = true
      ∧ (held .pin).hold ≠ .power ∧ (held .pin).hold = .pin ∧ (held .power).hold ≠ .pin
      ∧ (held .power).hold ≠ .none := by decide

/-- The OK reply to RESET in transmission; and the pending port's leaving UP by each of its two ways. -/
theorem test_meets_SoftResetAtItsTwoEvents :
    let r : Reply := { tag := 9, name := 22, status := .ok, results := [] }
    let s : State := { upTrunk (fun x => sending .reply { x with failureRun := 7, replies := [r] }) with softPending := some 0 }
    s.hold = .none ∧ s.softPending = some 0 ∧ (s.trunk 0).tx = some { kind := .reply, bytes := [] }
      ∧ (s.trunk 0).replies = r :: [] ∧ r.name = 22 ∧ r.status = .ok
      ∧ s.LosesUp 0 (.trunkSignalLoss 0) .down ∧ s.LosesUp 0 (.trunkStraySymbol 0 [.data 1]) .aligning
      ∧ s.LosesUp 0 (.trunkUnitEnd 0 []) .aligning :=
  ⟨rfl, rfl, rfl, rfl, rfl, rfl, ⟨rfl, Or.inl ⟨rfl, rfl⟩⟩, ⟨rfl, Or.inr ⟨by decide, rfl, _, Or.inl rfl⟩⟩,
    ⟨rfl, Or.inr ⟨by decide, rfl, [], Or.inr ⟨rfl, by decide +kernel⟩⟩⟩⟩

theorem test_meets_NodeSignalAndAligning :
    State.reset.hold = .none ∧ (aligningNode 3).hold = .none ∧ ((aligningNode 3).node 0).link = .aligning
      ∧ judgeSample (((aligningNode 3).node 0).reception.getD [] ++ sampleUnit) = .good message
      ∧ ∀ m, judgeSample (((aligningNode 3).node 0).reception.getD [] ++ []) ≠ .good m := by
  refine ⟨rfl, rfl, rfl, by decide +kernel, fun m => ?_⟩
  rw [show judgeSample (((aligningNode 3).node 0).reception.getD [] ++ []) = .badCrc by decide +kernel]
  exact nofun

theorem test_meets_GoodMessageIsPlacedOrRefused :
    upNode.hold = .none ∧ (upNode.node 0).link = .up
      ∧ judgeSample ((upNode.node 0).reception.getD [] ++ sampleUnit) = .good message := by decide +kernel

theorem test_meets_FailingAndMalformedUnits :
    upNode.hold = .none ∧ (upNode.node 0).link = .up ∧ judgeSample ((upNode.node 0).reception.getD [] ++ []) = .badCrc
      ∧ judgeSample ((upNode.node 0).reception.getD [] ++ unit [0x0C800000, 40, 7]) = .badLength := by decide +kernel

theorem test_meets_TruncatedAndIgnoredUnits :
    State.reset.hold = .none ∧ (State.reset.node 0).link ≠ .aligning ∧ (State.reset.trunk 0).link ≠ .aligning
      ∧ (State.reset.node 0).link = .down ∧ (State.reset.trunk 0).link = .down := by decide

/-! ### Hypotheses: intake, window, closes -/

theorem test_meets_IntakeServesThePortsInRotation :
    let s := (upNode.modNode 0 fun x => { x with fifo := [message] }).modNode 15 fun x => { x with fifo := [message] }
    s.hold = .none ∧ s.intake = none ∧ (s.node 0).fifo = message :: []
      ∧ (∀ q : NodeId, q - s.lastNode - 1 < 0 - s.lastNode - 1 → (s.node q).fifo = [])
      ∧ ({ s with lastNode := 14 } : State).intake = none ∧ (s.node 15).fifo = message :: []
      ∧ (∀ p, (State.reset.node p).fifo = []) := by decide

theorem test_meets_DiscardsBeforeTheWindow :
    (State.reset.stream 3).enabled = false ∧ ((merging id).stream 3).enabled = true ∧ ((merging id).stream 3).port ≠ 15
      ∧ ((merging id).stream 3).port = 0 ∧ ({ message with lengthField := 2 } : SampleMsg).lengthField ≠ ((merging id).stream 3).length
      ∧ (((merging id).modStream 3 fun x => { x with group := none }).stream 3).group = none
      ∧ (merging id).Routes 0 message 0 ∧ ((merging fun x => { x with state := .aborting }).group 0).state = .aborting
      ∧ (∀ x ∈ ([] : List Slot), x.stream ≠ 3) ∧ ((merging id).adjusted message).toNat % 8 ≠ 1 :=
  ⟨rfl, rfl, by decide, rfl, by decide, rfl, ⟨rfl, rfl, rfl, rfl⟩, rfl, by simp, by decide⟩

/-- The instant 40 is late by exactly 2^31, early by D and by 2^31 − 1, in RUNNING and in DRAINING. -/
theorem test_meets_LateAndEarlyMessages :
    let at_ := fun (e : Instant) (rows : List Row) => merging fun x => { x with cursor := some e, rows := rows }
    ((at_ 0x80000028 []).Places 0 message 0 40 0 0 ∧ 2147483648 ≤ ((40 : Instant) - 0x80000028).toNat)
      ∧ ((at_ 24 []).Places 0 message 0 40 0 0 ∧ ((at_ 24 []).group 0).depth ≤ ((40 : Instant) - 24).toNat)
      ∧ ((at_ 0x80000029 [openRow 0x80000029 none false]).Places 0 message 0 40 0 0 ∧ ((40 : Instant) - 0x80000029).toNat = 2147483647)
      ∧ (let s := merging fun x => { x with cursor := some 40, state := .draining }
         s.Places 0 message 0 40 0 0 ∧ (s.group 0).state = .draining ∧ (s.group 0).rowAt 40 = none) :=
  ⟨⟨merging_places _ rfl rfl, by decide⟩, ⟨merging_places _ rfl rfl, by decide⟩, ⟨merging_places _ rfl rfl, by decide⟩,
    merging_places _ rfl rfl, rfl, rfl⟩

/-- The cursor unset, and at both ends of the window. -/
theorem test_meets_FirstSampleOpensARow :
    let at_ := fun (e : Option Instant) => merging fun x => { x with cursor := e }
    ((at_ none).Places 0 message 0 40 0 0 ∧ ((at_ none).group 0).rowAt 40 = none ∧ ((at_ none).group 0).cursor = none
        ∧ 1 ≤ ((at_ none).group 0).depth)
      ∧ ((at_ (some 40)).Places 0 message 0 40 0 0 ∧ ((40 : Instant) - 40).toNat < ((at_ (some 40)).group 0).depth)
      ∧ ((at_ (some 25)).Places 0 message 0 40 0 0 ∧ ((40 : Instant) - 25).toNat < ((at_ (some 25)).group 0).depth)
      ∧ (at_ none).freeCells.take 1 = [0] ∧ (at_ none).freeRows.take 1 = [0] :=
  ⟨⟨merging_places _ rfl rfl, rfl, rfl, by decide⟩, ⟨merging_places _ rfl rfl, by decide⟩, ⟨merging_places _ rfl rfl, by decide⟩,
    by decide +kernel, by decide +kernel⟩

/-- A slot without and with a cell, and no row, the last with any pools, the empty ones among them; and a first synchronisation. -/
theorem test_meets_ArrivalForAnOpenRowOrAnEmptyPool :
    let at_ := fun (rows : List Row) => merging fun x => { x with cursor := some 40, rows := rows }
    ((at_ [openRow 40 none false]).Places 0 message 0 40 0 0
        ∧ ((at_ [openRow 40 none false]).group 0).rowAt 40 = some (openRow 40 none false) ∧ (openRow 40 none false).slotMap[0]? = some none)
      ∧ ((at_ [openRow 40 (some 5) false]).Places 0 message 0 40 0 0
        ∧ ((at_ [openRow 40 (some 5) false]).group 0).rowAt 40 = some (openRow 40 (some 5) false)
        ∧ (openRow 40 (some 5) false).slotMap[0]? = some (some 5))
      ∧ ((at_ []).Places 0 message 0 40 0 0 ∧ ((at_ []).group 0).rowAt 40 = none ∧ ((at_ []).group 0).state = .running)
      ∧ (∀ s : State, s.streams = (at_ []).streams → s.groups = (at_ []).groups → s.Places 0 message 0 40 0 0)
      ∧ (let s : State := { merging id with freeCells := [] }
         s.Places 0 message 0 40 0 0 ∧ (s.group 0).state = .running ∧ (s.group 0).cursor = none ∧ 1 ≤ (s.group 0).depth
           ∧ (s.group 0).rowAt 40 = none ∧ s.freeCells = []) :=
  ⟨⟨merging_places _ rfl rfl, rfl, rfl⟩, ⟨merging_places _ rfl rfl, rfl, rfl⟩, ⟨merging_places _ rfl rfl, rfl, rfl⟩,
    fun _ hs hg => places_of_same hs hg (merging_places _ rfl rfl),
    places_of_same (s := merging id) rfl rfl (merging_places id rfl rfl), rfl, rfl, (by decide : 1 ≤ 16), rfl, rfl⟩

theorem test_meets_ForcedAdvanceTakenOrDeclined :
    let waiting : WaitingMsg := { port := 0, msg := message, group := 0, instant := 40 }
    let s : State := { merging fun x => { x with cursor := some 0, rows := [openRow 25 none false] } with intake := some waiting }
    s.hold = .none ∧ s.intake = some waiting ∧ State.reset.intake = none
      ∧ (({ State.reset with intake := some waiting } : State).group 0).state ≠ .running
      ∧ ((merging id).group 0).cursor = none
      ∧ (let full := merging fun x =>
          { x with cursor := some 0, empty := .emit, queue := List.replicate 8 (frame (.fill .zero) false) }
         before 0 25 = true ∧ 8 - (full.group 0).queue.length < (full.group 0).framesNeeded 0 25)
      ∧ (s.group 0).state = .running ∧ (s.group 0).cursor = some 0 ∧ (s.group 0).templates.armed = none ∧ (s.group 0).empty = .skip
      ∧ (∀ x ∈ (s.group 0).templates.activeSlots, x.Lawful) ∧ before 0 ((40 : Instant) - BitVec.ofNat 32 (s.group 0).depth + 1) = true
      ∧ (∀ r ∈ (s.group 0).rows, ((40 : Instant) - BitVec.ofNat 32 (s.group 0).depth + 1 - 0).toNat ≤ (r.instant - 0).toNat) := by
  refine ⟨rfl, rfl, rfl, by decide, rfl, ⟨by decide, by decide +kernel⟩, rfl, rfl, rfl, rfl, ?_, by decide, by decide⟩
  intro x hx
  obtain rfl : x = { stream := 3, cadence := 1, phase := 0 } := List.mem_singleton.mp hx
  exact ⟨Or.inl rfl, by decide⟩

/-- Group 0 with a row at 20 that an advance to 25 closes, and a bank ARMED for 22. -/
def advancing : Group :=
  { runningGroup with cursor := some 20, rows := [openRow 20 none false], templates := armedAt 22 }

theorem advancing_lawful :
    advancing.paramsLawful ∧ advancing.windowLawful ∧ advancing.templates.Lawful := by
  refine ⟨by simp [Group.paramsLawful, advancing, runningGroup, Group.initial], ⟨nofun, fun e he => ?_⟩,
    ⟨?_, ⟨by decide, by simp [advancing, armedAt, runningGroup, Templates.initial], by decide⟩, ?_⟩⟩
  · obtain rfl : (20 : Instant) = e := Option.some.inj he
    simp [advancing, openRow, runningGroup, Group.initial, distance]
  · refine ⟨by decide, fun x hx => ?_, by decide⟩
    obtain rfl : x = { stream := 3, cadence := 1, phase := 0 } := List.mem_singleton.mp hx
    exact ⟨Or.inl rfl, by decide⟩
  · intro a ha
    obtain rfl : ({ generation := 1, switchAt := 22 } : Armed) = a := Option.some.inj ha
    rfl

/-- An advance that closes a row and takes a switch, and the message that goes on with all its words and with too few. -/
theorem test_meets_ForcedAdvanceTakenOrDeclined_moving :
    let waiting : WaitingMsg := { port := 0, msg := message, group := 0, instant := 40 }
    let s : State := { merging fun _ => advancing with intake := some waiting }
    s.hold = .none ∧ s.intake = some waiting ∧ (s.group 0).state = .running ∧ (s.group 0).cursor = some 20 ∧ before 20 25 = true
      ∧ (s.group 0).framesNeeded 20 25 ≤ 8 - (s.group 0).queue.length
      ∧ (s.group 0).paramsLawful ∧ (s.group 0).windowLawful ∧ (s.group 0).templates.Lawful
      ∧ ((State.reset.stream 3).group ≠ some waiting.group)
      ∧ ((merging id).stream 3).group = some waiting.group ∧ (merging id).Places 0 message 0 40 0 0
      ∧ ((merging id).stream 3).length ≤ message.payload.length
      ∧ message.payload.length < (((merging id).modStream 3 fun x => { x with length := 2 }).stream 3).length :=
  ⟨rfl, rfl, rfl, rfl, by decide, by decide +kernel, advancing_lawful.1, advancing_lawful.2.1, advancing_lawful.2.2, by decide, rfl,
    merging_places _ rfl rfl, by decide, by decide⟩

theorem test_meets_DueInstantsAreCountedExactly :
    ∀ x ∈ ([{ stream := 3, cadence := 8, phase := 7 }] : List Slot), x.Lawful := by
  intro x hx; obtain rfl := List.mem_singleton.mp hx; exact ⟨by decide, by decide⟩

theorem test_meets_DeadlineExpirySetsTheFlag :
    let at_ := fun (b : Bool) => merging fun x => { x with cursor := some 40, rows := [openRow 40 none b] }
    (at_ false).hold = .none ∧ ((at_ false).group 0).rowAt 40 = some (openRow 40 none false)
      ∧ ((at_ true).group 0).rowAt 40 = some (openRow 40 none true) ∧ ((at_ true).group 0).rowAt 41 = none := ⟨rfl, rfl, rfl, rfl⟩

theorem test_meets_CloseAttemptOutcomes :
    let at_ := fun (slot : Option CellId) (b : Bool) (k : Nat) => merging fun x =>
      { x with cursor := some 40, rows := [openRow 40 slot b], attempts := 1, queue := List.replicate k (frame (.fill .zero) false) }
    ((merging id).group 0).attempts = 0 ∧ ((at_ none false 0).group 0).attempts ≠ 0
      ∧ ((at_ none false 0).group 0).rowComplete (openRow 40 none false) = false
      ∧ ((at_ (some 5) false 7).group 0).rows = [openRow 40 (some 5) false] ∧ ((at_ (some 5) false 7).group 0).cursor = some 40
      ∧ ((at_ (some 5) false 7).group 0).rowComplete (openRow 40 (some 5) false) = true
      ∧ ((at_ none true 8).group 0).rows = [openRow 40 none true] ∧ (openRow 40 none true).expired = true
      ∧ ((at_ (some 5) false 7).group 0).queue.length < 8 ∧ 8 ≤ ((at_ none true 8).group 0).queue.length := by decide +kernel

theorem test_meets_CloseAttemptOutcomes_stop :
    let s := merging fun _ => { advancing with attempts := 1 }
    s.hold = .none ∧ (s.group 0).attempts ≠ 0 ∧ (s.group 0).paramsLawful ∧ (s.group 0).windowLawful ∧ (s.group 0).cursor ≠ none :=
  ⟨rfl, by decide, advancing_lawful.1, advancing_lawful.2.1, by decide⟩

theorem test_meets_WalkAndAdvanceMoves :
    let at_ := fun (e : Instant) (p : EmptyPolicy) (slots : List Slot) (k : Nat) => merging fun x =>
      { x with
        cursor := some e, empty := p, rows := [openRow 40 none true], queue := List.replicate k (frame (.fill .zero) false)
        templates := { x.templates with activeSlots := slots } }
    let every : List Slot := runningGroup.templates.activeSlots
    ((at_ 39 .skip [] 0).group 0).rowRipe (openRow 40 none true) = true ∧ ((at_ 39 .skip [] 0).group 0).cursor = some 39
      ∧ (every.zipIdx.filter fun x => (39 : Instant).toNat % x.1.cadence == x.1.phase) ≠ []
      ∧ ((at_ 39 .emit every 8).group 0).rowRipe (openRow 40 none true) = true ∧ 8 ≤ ((at_ 39 .emit every 8).group 0).queue.length
      ∧ ((at_ 40 .skip every 7).group 0).rowRipe (openRow 40 none true) = true ∧ ((at_ 40 .skip every 7).group 0).queue.length < 8
      ∧ ((at_ 40 .skip every 7).group 0).cursor = some (openRow 40 none true).instant := by decide +kernel

/-- Counters of 0 are lawful. -/
theorem counters_lawful_of_zero (n : Nat) : countersLawful (Vector.replicate n 0) := by
  intro c hc; simp [Vector.toList_replicate] at hc; omega

/-- An advance from 20 to 25: at the target, at a row, and a run of two instants that ends at S, of one that ends at a row, and of five
that ends at the target. -/
theorem test_meets_WalkAndAdvanceMoves_advance :
    let at_ := fun (e : Instant) (n : Instant) => merging fun _ => { advancing with cursor := some e, rows := [openRow n none false] }
    before 25 25 = false ∧ before 20 25 = true ∧ ((at_ 20 20).group 0).rowAt 20 = some (openRow 20 none false)
      ∧ ((at_ 20 24).group 0).rowAt 20 = none ∧ (∀ i, 1 ≤ i → i < 2 → ((at_ 20 24).group 0).rowAt (20 + BitVec.ofNat 32 i) = none
        ∧ ∀ a, ((at_ 20 24).group 0).templates.armed = some a → a.switchAt ≠ 20 + BitVec.ofNat 32 i)
      ∧ (∃ a, ((at_ 20 24).group 0).templates.armed = some a ∧ a.switchAt = 20 + BitVec.ofNat 32 2)
      ∧ ((at_ 20 21).group 0).rowAt (20 + BitVec.ofNat 32 1) ≠ none ∧ 3 = ((25 : Instant) - 22).toNat
      ∧ (∀ x ∈ ((at_ 20 24).group 0).templates.activeSlots, x.Lawful) ∧ countersLawful ((at_ 20 24).group 0).counters := by
  refine ⟨by decide, by decide, rfl, rfl, fun i h1 h2 => ?_, ⟨_, rfl, by decide⟩, by decide +kernel, by decide,
    advancing_lawful.2.2.1.2.1, counters_lawful_of_zero 12⟩
  obtain rfl : i = 1 := by omega
  refine ⟨by decide +kernel, fun a ha => ?_⟩
  obtain rfl : ({ generation := 1, switchAt := 22 } : Armed) = a := Option.some.inj ha
  decide

theorem test_meets_PlacingARecordIsFramed :
    (∀ e ∈ (frame (.real 5) false).entries, e.stream ≠ 4)
      ∧ ((frame (.real 5) false).entries.map Entry.stream).count 3 = 1 ∧ (1 : GroupId) ≠ 0 := by decide

theorem test_meets_LossMonitorAndFillKind :
    let real : Entry := { slot := 0, stream := 3, content := .real 5 }
    let fill : Entry := { slot := 0, stream := 3, content := .fill .hold }
    real.content = .real 5 ∧ fill.content = .fill .hold ∧ ((merging id).stream 3).group = some 0
      ∧ (State.reset.stream 3).group ≠ some 0 ∧ (State.reset.stream 3).fillPolicy = .zero := by decide

/-- A move of one instant onto S, and one that stops short of it. -/
theorem test_meets_CursorReachingSTakesTheSwitch :
    let s := merging fun x => { x with cursor := some 39, templates := armedAt 40 }
    (s.group 0).cursor = some 39 ∧ (s.group 0).templates.armed = some { generation := 1, switchAt := 40 } ∧ before 39 40 = true
      ∧ ¬((39 : Instant) = 40 ∨ before 40 39 = true) := ⟨rfl, rfl, by decide, by decide⟩

/-! ### Hypotheses: trunk ports -/

theorem test_meets_TrunkSignalEvents :
    State.reset.hold = .none ∧ (State.reset.trunk 0).link ≠ .up ∧ ((upTrunk id).trunk 0).link = .up
      ∧ ((upTrunk id).group 0).headSending = false ∧ (upTrunk id).softPending ≠ some 0 := by decide

theorem test_meets_TrunkAligningAndEnteringUp :
    let s := aligningTrunk 3
    s.hold = .none ∧ (s.trunk 0).link = .aligning
      ∧ judgeTrunk ((s.trunk 0).reception.getD [] ++ unit [0x08000001, 0x00050000]) = .credit .add 5
      ∧ judgeTrunk ((s.trunk 0).reception.getD [] ++ unit [0x09000001, 0x09010000]) = .request { tag := 9, name := 1, args := [] }
      ∧ judgeTrunk ((s.trunk 0).reception.getD [] ++ []) = .badCrc
      ∧ judgeTrunk ((s.trunk 0).reception.getD [] ++ unit [0x08000001, 0]) = .badForm := by decide +kernel

/-- A frame in transmission in a group of any state, on a port about to leave UP by each of its two ways. -/
theorem test_meets_FrameInTransmissionIsLost (st : GroupState) :
    let s := (merging fun x => { x with state := st, queue := [frame (.real 5) true] }).modTrunk 0 fun x =>
      sending .frame { x with link := .up, failureRun := 7 }
    s.hold = .none ∧ (s.group 0).queue = frame (.real 5) true :: []
      ∧ (frame (.real 5) true).inTransmission = true ∧ s.softPending ≠ some 0
      ∧ s.LosesUp 0 (.trunkSignalLoss 0) .down ∧ s.LosesUp 0 (.trunkStraySymbol 0 [.data 1]) .aligning
      ∧ s.LosesUp 0 (.trunkUnitEnd 0 []) .aligning :=
  ⟨rfl, rfl, rfl, nofun, ⟨rfl, Or.inl ⟨rfl, rfl⟩⟩, ⟨rfl, Or.inr ⟨Nat.le_refl 7, rfl, _, Or.inl rfl⟩⟩,
    ⟨rfl, Or.inr ⟨Nat.le_refl 7, rfl, [], Or.inr ⟨rfl, by cases st <;> decide +kernel⟩⟩⟩⟩

/-- A balance that stands at 255 after the add, and one above it. -/
theorem test_meets_CreditAndRequestFrames :
    let s := upTrunk fun x => { x with credit := 250 }
    s.hold = .none ∧ (s.trunk 0).link = .up
      ∧ judgeTrunk ((s.trunk 0).reception.getD [] ++ unit [0x08000001, 0x00050000]) = .credit .add 5
      ∧ judgeTrunk ((s.trunk 0).reception.getD [] ++ unit [0x09000001, 0x09010000]) = .request { tag := 9, name := 1, args := [] }
      ∧ ((after (.trunkUnitEnd 0 (unit [0x08000001, 0x00060000])) s).trunk 0).counters[5] = 1 := by decide +kernel

theorem test_meets_TrunkFailingUnits :
    let s := upTrunk fun x => { x with failureRun := 7 }
    ((upTrunk id).trunk 0).failureRun + 1 < 8 ∧ 8 ≤ (s.trunk 0).failureRun + 1
      ∧ s.hold = .none ∧ (s.trunk 0).link = .up ∧ (s.group 0).headSending = false ∧ s.softPending ≠ some 0
      ∧ judgeTrunk ((s.trunk 0).reception.getD [] ++ []) = .badCrc
      ∧ judgeTrunk ((s.trunk 0).reception.getD [] ++ unit [0x08000001, 0]) = .badForm := by decide +kernel

theorem test_meets_TrunkTimerExpiries :
    let s := upTrunk fun x => { x with starveTimer := some 1000, markTimer := some 1000, markDebt := 8 }
    s.hold = .none ∧ (s.trunk 0).starveTimer = some 1000 ∧ (s.trunk 0).markTimer = some 1000 ∧ 8 ≤ (s.trunk 0).markDebt
      ∧ ((upTrunk id).trunk 0).starveTimer = none ∧ ((upTrunk id).trunk 0).markTimer = none := by decide

theorem test_meets_FrameEndInAnActiveGroup :
    let s := (merging fun x => { x with queue := [frame (.real 5) true] }).modTrunk 0 fun x => sending .frame { x with link := .up }
    s.hold = .none ∧ (s.trunk 0).tx = some { kind := .frame, bytes := [] } ∧ (s.group 0).queue = frame (.real 5) true :: []
      ∧ (frame (.real 5) true).inTransmission = true ∧ (s.group 0).state = .running
      ∧ ((frame (.real 5) true).entries.map Entry.stream).Nodup
      ∧ (let d := merging fun x =>
          { x with state := .draining, queue := [frame (.real 5) true, frame (.fill .zero) false] }
         (d.group 0).state = .draining ∧ [frame (.fill .zero) false] ≠ [])
      ∧ (let d := merging fun x => { x with state := .draining, rows := [openRow 41 none false], queue := [frame (.real 5) true] }
         (d.group 0).state = .draining ∧ (d.group 0).rows ≠ []) :=
  ⟨rfl, rfl, rfl, rfl, rfl, by decide, ⟨rfl, by decide⟩, rfl, by decide⟩

theorem test_meets_FrameEndCompletesADrainOrAnAbort :
    let s := fun (st : GroupState) =>
      (merging fun x => { x with state := st, queue := [frame (.real 5) true] }).modTrunk 0 fun x => sending .frame { x with link := .up }
    ∀ st, (s st).hold = .none ∧ ((s st).trunk 0).tx = some { kind := .frame, bytes := [] }
      ∧ ((s st).group 0).queue = [frame (.real 5) true] ∧ ((s st).group 0).rows = [] ∧ ((s st).group 0).state = st
      ∧ (frame (.real 5) true).inTransmission = true ∧ ((frame (.real 5) true).entries.map Entry.stream).Nodup :=
  fun _ => ⟨rfl, rfl, rfl, rfl, rfl, rfl, by decide⟩

theorem test_meets_MarkAndReplyEnds :
    let r : Reply := { tag := 9, name := 1, status := .ok, results := [] }
    let s := upTrunk fun x => sending .reply { x with replies := [r] }
    s.hold = .none ∧ ((upTrunk (sending .mark)).trunk 0).tx = some { kind := .mark, bytes := [] }
      ∧ (s.trunk 0).tx = some { kind := .reply, bytes := [] } ∧ (s.trunk 0).replies = r :: [] ∧ s.softPending ≠ some 0
      ∧ ((upTrunk id).trunk 0).tx = none := by decide

/-- Debt 8 and 7, a balance of 1 and of 0, each with and without something to send. -/
theorem test_meets_TransmitArbiterAndStarts :
    let s := fun (debt credit : Nat) (queue : List FrameRecord) =>
      (merging fun x => { x with queue := queue }).modTrunk 0 fun x => { x with link := .up, markDebt := debt, credit := credit }
    (State.reset.trunk 0).link ≠ .up ∧ ((s 8 1 []).trunk 0).tx = none ∧ 8 ≤ ((s 8 1 []).trunk 0).markDebt
      ∧ ((s 7 1 [frame (.real 5) false]).trunk 0).replies = [] ∧ 1 ≤ ((s 7 1 [frame (.real 5) false]).trunk 0).credit
      ∧ ((s 7 1 [frame (.real 5) false]).group 0).queue = frame (.real 5) false :: []
      ∧ ((s 1 0 [frame (.real 5) false]).trunk 0).credit = 0 ∧ 1 ≤ ((s 1 0 []).trunk 0).markDebt
      ∧ ((s 0 1 []).group 0).queue = [] ∧ ((s 0 1 []).trunk 0).markDebt = 0
      ∧ ((merging id).stream 3).length ≤ 8 ∧ ((merging id).stream 3).holdStore = none := by decide

/-! ### Hypotheses: requests.  Each list gives arguments, clause by clause, and the status that answers them. -/

/-- The state with a request at the head of TP0's queue, and nothing else there. -/
def askingOn (s : State) (name : Byte) (args : List Word) : State :=
  { s with
    hold := .none, softPending := none, lastTrunk := 1
    trunks := Vector.replicate 2
      { Trunk.initial with line := true, link := .up, requests := [{ tag := 9, name := name, args := args }] } }

theorem asking_serves (s : State) (name : Byte) (args : List Word) :
    (askingOn s name args).Serves 0 { tag := 9, name := name, args := args } [] :=
  ⟨rfl, rfl, rfl, (by decide : 0 < 4), Or.inl (by decide : (0 : TrunkId) = 1 + 1)⟩

/-- The status of the reply that the command gives to the request. -/
def statusOf (c : Instr) (s : State) (name : Byte) (args : List Word) : List Status :=
  ((after c (askingOn s name args)).trunk 0).replies.map Reply.status

theorem test_meets_RequestsWithoutArguments :
    statusOf .ping State.reset 1 [0] = [.badLength] ∧ statusOf .ping State.reset 1 [] = [.ok]
      ∧ statusOf .portStatus State.reset 15 [0] = [.badLength] ∧ statusOf .portStatus State.reset 15 [] = [.ok]
      ∧ statusOf .reset State.reset 22 [0] = [.badLength] ∧ statusOf .reset State.reset 22 [] = [.ok]
      ∧ statusOf .undefinedRequest State.reset 0 [] = [.badOpcode] ∧ statusOf .undefinedRequest State.reset 23 [] = [.badOpcode]
      ∧ statusOf .undefinedRequest State.reset 255 [] = [.badOpcode] := by decide +kernel

theorem test_meets_StatusReadsReportTheState :
    statusOf .readStream State.reset 2 [] = [.badLength] ∧ statusOf .readStream State.reset 2 [64] = [.badArgument]
      ∧ statusOf .readStream State.reset 2 [63] = [.ok] ∧ statusOf .templateRead State.reset 6 [0] = [.badLength]
      ∧ statusOf .templateRead State.reset 6 [2, 0] = [.badArgument] ∧ statusOf .templateRead State.reset 6 [0, 2] = [.badArgument]
      ∧ statusOf .templateRead State.reset 6 [1, 1] = [.ok] ∧ statusOf .groupStatus State.reset 13 [0, 0] = [.badLength]
      ∧ statusOf .groupStatus State.reset 13 [2] = [.badArgument] ∧ statusOf .groupStatus State.reset 13 [1] = [.ok]
      ∧ statusOf .rowList State.reset 14 [0] = [.badLength] ∧ statusOf .rowList State.reset 14 [0, 64] = [.badArgument]
      ∧ statusOf .rowList State.reset 14 [1, 63] = [.ok] := by decide +kernel

theorem test_meets_WriteStreamWritesTheNamedFields :
    let used := merging id
    statusOf .writeStream used 3 [3] = [.badLength] ∧ statusOf .writeStream used 3 [3, 1] = [.badLength]
      ∧ statusOf .writeStream used 3 [64, 1, 1] = [.badArgument] ∧ statusOf .writeStream used 3 [3, 0] = [.badArgument]
      ∧ statusOf .writeStream used 3 [3, 256] = [.badArgument] ∧ statusOf .writeStream used 3 [3, 8, 33] = [.badArgument]
      ∧ statusOf .writeStream used 3 [3, 8, 0xFFFFFFE0] = [.inUse] ∧ statusOf .writeStream State.reset 3 [3, 8, 0xFFFFFFE0] = [.ok]
      ∧ statusOf .writeStream used 3 [3, 16, 2] = [.ok] := by decide +kernel

theorem test_meets_TemplateLoadAndCopyEditTheIdleBank :
    let armed := merging fun x => { x with cursor := some 0, templates := armedAt 16 }
    statusOf .templateLoad (merging id) 4 [0] = [.badLength] ∧ statusOf .templateLoad (merging id) 4 [0, 1, 3, 1] = [.badLength]
      ∧ statusOf .templateLoad (merging id) 4 [2, 0] = [.badArgument]
      ∧ statusOf .templateLoad (merging id) 4 [0, 1, 3, 8, 8] = [.badArgument]
      ∧ statusOf .templateLoad armed 4 [0, 1, 3, 8, 7] = [.locked] ∧ statusOf .templateLoad (merging id) 4 [0, 1, 4, 8, 7] = [.conflict]
      ∧ statusOf .templateLoad (merging id) 4 [0, 2, 3, 8, 7, 3, 1, 0] = [.conflict]
      ∧ statusOf .templateLoad (merging id) 4 [0, 1, 3, 8, 7] = [.ok]
      ∧ statusOf .templateCopy armed 5 [] = [.badLength] ∧ statusOf .templateCopy armed 5 [2] = [.badArgument]
      ∧ statusOf .templateCopy armed 5 [0] = [.locked] ∧ statusOf .templateCopy (merging id) 5 [0] = [.ok] := by decide +kernel

/-- Mode AT at E + D, one instant before it, and 2^31 beyond E. -/
theorem test_meets_TemplateCommitTakesOverOrArms :
    let run := merging fun x => { x with cursor := some 10 }
    let armed := merging fun x => { x with cursor := some 0, templates := armedAt 16 }
    let foreign := merging fun x => { x with templates := { x.templates with otherSlots := [{ stream := 4, cadence := 1, phase := 0 }] } }
    statusOf .templateCommit run 7 [0] = [.badLength] ∧ statusOf .templateCommit run 7 [0, 2, 0] = [.badArgument]
      ∧ statusOf .templateCommit armed 7 [0, 0, 0] = [.locked] ∧ statusOf .templateCommit foreign 7 [0, 0, 0] = [.conflict]
      ∧ statusOf .templateCommit (merging id) 7 [0, 0, 0] = [.ok] ∧ statusOf .templateCommit run 7 [0, 0, 0] = [.ok]
      ∧ statusOf .templateCommit run 7 [0, 1, 26] = [.ok] ∧ statusOf .templateCommit run 7 [0, 1, 25] = [.tooSoon]
      ∧ statusOf .templateCommit run 7 [0, 1, 0x8000000A] = [.tooSoon] := by decide +kernel

theorem test_meets_TemplateCancelWithdrawsTheArmedBank :
    let armed := fun (rows : List Row) => merging fun x => { x with cursor := some 0, rows := rows, templates := armedAt 16 }
    statusOf .templateCancel (armed []) 8 [] = [.badLength] ∧ statusOf .templateCancel (armed []) 8 [2] = [.badArgument]
      ∧ statusOf .templateCancel (merging id) 8 [0] = [.state]
      ∧ statusOf .templateCancel (armed [{ openRow 16 none false with generation := 1 }]) 8 [0] = [.inUse]
      ∧ statusOf .templateCancel (armed [openRow 0 none false]) 8 [0] = [.ok] := by decide +kernel

theorem test_meets_GroupSetWritesTheNamedParameters :
    statusOf .groupSet State.reset 9 [0] = [.badLength] ∧ statusOf .groupSet State.reset 9 [0, 1] = [.badLength]
      ∧ statusOf .groupSet State.reset 9 [2, 1, 2] = [.badArgument] ∧ statusOf .groupSet State.reset 9 [0, 16] = [.badArgument]
      ∧ statusOf .groupSet State.reset 9 [0, 1, 65] = [.badArgument] ∧ statusOf .groupSet (merging id) 9 [0, 1, 64] = [.state]
      ∧ statusOf .groupSet State.reset 9 [1, 15, 64, 65535, 1, 1] = [.ok] := by decide +kernel

theorem test_meets_GroupStartAndStop :
    let be := fun (st : GroupState) (rows : List Row) => merging fun x => { x with state := st, rows := rows }
    statusOf .groupStart State.reset 10 [] = [.badLength] ∧ statusOf .groupStart State.reset 10 [2] = [.badArgument]
      ∧ statusOf .groupStart (be .aborting []) 10 [0] = [.state] ∧ statusOf .groupStart State.reset 10 [0] = [.noTemplate]
      ∧ statusOf .groupStart (be .stopped []) 10 [0] = [.ok] ∧ statusOf .groupStart (be .running []) 10 [0] = [.ok]
      ∧ statusOf .groupStart (be .draining []) 10 [0] = [.ok] ∧ statusOf .groupStop State.reset 11 [] = [.badLength]
      ∧ statusOf .groupStop State.reset 11 [2] = [.badArgument] ∧ statusOf .groupStop State.reset 11 [0] = [.ok]
      ∧ ((after .groupStop (askingOn (be .running [openRow 40 none false]) 11 [0])).group 0).state = .draining
      ∧ ((after .groupStop (askingOn (be .running []) 11 [0])).group 0).state = .stopped := by decide +kernel

theorem test_meets_GroupAbortReleasesEverything :
    statusOf .groupAbort State.reset 12 [] = [.badLength] ∧ statusOf .groupAbort State.reset 12 [2] = [.badArgument]
      ∧ statusOf .groupAbort (merging fun x => { x with queue := [frame (.real 5) true] }) 12 [0] = [.ok] := by decide +kernel

theorem test_meets_PortSetChangesTheNamedPorts :
    statusOf .portSet State.reset 16 [1] = [.badLength] ∧ statusOf .portSet State.reset 16 [0, 1] = [.badArgument]
      ∧ statusOf .portSet State.reset 16 [65536, 1] = [.badArgument] ∧ statusOf .portSet State.reset 16 [1, 2] = [.badArgument]
      ∧ statusOf .portSet State.reset 16 [65535, flagWord true] = [.ok] := by decide +kernel

theorem test_meets_TrunkSetRestartsTheTimers :
    statusOf .trunkSet State.reset 17 [0] = [.badLength] ∧ statusOf .trunkSet State.reset 17 [0, 3, 10] = [.badLength]
      ∧ statusOf .trunkSet State.reset 17 [2, 1, 10] = [.badArgument] ∧ statusOf .trunkSet State.reset 17 [0, 4] = [.badArgument]
      ∧ statusOf .trunkSet State.reset 17 [0, 1, 9] = [.badArgument] ∧ statusOf .trunkSet State.reset 17 [0, 2, 256] = [.badArgument]
      ∧ statusOf .trunkSet State.reset 17 [1, 3, 10, 255] = [.ok] := by decide +kernel

theorem test_meets_ReadCountersReadsAndClears :
    statusOf .readCounters State.reset 18 [0, 0] = [.badLength] ∧ statusOf .readCounters State.reset 18 [4, 0, 0] = [.badArgument]
      ∧ statusOf .readCounters State.reset 18 [0, 64, 0] = [.badArgument] ∧ statusOf .readCounters State.reset 18 [3, 2, 0] = [.badArgument]
      ∧ statusOf .readCounters State.reset 18 [0, natWord 63, flagWord true] = [.ok]
      ∧ statusOf .readCounters State.reset 18 [1, natWord 15, flagWord false] = [.ok]
      ∧ statusOf .readCounters State.reset 18 [2, natWord 1, flagWord true] = [.ok]
      ∧ statusOf .readCounters State.reset 18 [3, natWord 1, flagWord false] = [.ok] := by decide +kernel

theorem test_meets_FaultReadAndTake :
    statusOf .faultRead State.reset 19 [] = [.badLength] ∧ statusOf .faultRead State.reset 19 [0] = [.badArgument]
      ∧ statusOf .faultRead State.reset 19 [9] = [.badArgument] ∧ statusOf .faultRead State.reset 19 [8] = [.ok]
      ∧ statusOf .faultTake State.reset 20 [1, 1] = [.badLength] ∧ statusOf .faultTake State.reset 20 [0] = [.badArgument]
      ∧ statusOf .faultTake State.reset 20 [1] = [.ok] := by decide +kernel

theorem test_meets_FaultMaskReadsAndWrites :
    statusOf .faultMaskRead State.reset 21 [0] = [.ok] ∧ statusOf .faultMaskRead State.reset 21 [0, 1] = [.badLength]
      ∧ statusOf .faultMaskWrite State.reset 21 [1, 0] = [.badArgument] ∧ statusOf .faultMaskWrite State.reset 21 [1, 1] = [.ok]
      ∧ statusOf .faultMaskWrite State.reset 21 [1, 8191] = [.ok] ∧ statusOf .faultMaskWrite State.reset 21 [1, 8192] = [.badArgument]
      ∧ statusOf .faultMaskWrite State.reset 21 [1] = [.badLength] ∧ statusOf .faultMaskRead State.reset 21 [2] = [.badArgument]
      ∧ statusOf .faultMaskWrite State.reset 21 [] = [.badLength] := by decide +kernel

theorem test_meets_EngineTakesNothingElse :
    State.reset.hold = .none ∧ Instr.isRequest .ping = true ∧ ({ State.reset with softPending := some 1 } : State).softPending ≠ none
      ∧ (∀ q, (State.reset.trunk q).requests = [] ∨ 4 ≤ (State.reset.trunk q).replies.length)
      ∧ (askingOn State.reset 2 [0]).Serves 0 { tag := 9, name := 2, args := [0] } []
      ∧ ¬Instr.Takes .ping { tag := 9, name := 2, args := [0] } :=
  ⟨rfl, rfl, by decide, by decide, asking_serves _ _ _, by simp [Instr.Takes, Instr.requestCode]⟩

/-! ### Hypotheses: the log, units, laws -/

/-- A repeat count of 254, one of 255, and logs of 31 and 32 records. -/
theorem test_meets_LoggingCoalescesAddsOrOverflows :
    let l := groupLogging .resync 0
    let log := fun (repeats : Nat) =>
      ({ FaultLog.initial with records := [] ++ [{ sequence := 0, what := l, time := 0, repeats := repeats }] } : FaultLog)
    (log 254).overflowCount ≤ 65535 ∧ ((log 254).take 9 l).records.map FaultRecord.repeats = [255]
      ∧ ((log 255).take 9 l).records.map FaultRecord.repeats = [255, 1]
      ∧ (let full := fun (k : Nat) =>
          ({ FaultLog.initial with records := List.replicate k { sequence := 0, what := l, time := 0, repeats := 255 } } : FaultLog)
         ((full 31).take 9 l).records.length = 32 ∧ ((full 32).take 9 l).records.length = 32
           ∧ ((full 32).take 9 l).overflowCount = 1) := by decide +kernel

theorem test_meets_CountersSaturate :
    (raise (Vector.replicate 2 4294967294) 0 1)[0] = 4294967295 ∧ (raise (Vector.replicate 2 4294967294) 0 2)[0] = 4294967295
      ∧ (1 : Fin 2) ≠ 0 := by decide

theorem test_meets_UnitsAreReadBack :
    1 ≤ ([7] : List Word).length ∧ (List.replicate 8 (0 : Word)).length ≤ 8 ∧ 255 < 256 ∧ (CreditMode.add = .add → 1 ≤ 255)
      ∧ (List.replicate 255 (0 : Word)).length ≤ 255 :=
  ⟨by decide, by decide, by decide, fun _ => by decide, le_of_eq List.length_replicate⟩

/-- The part after reset with PIN_RESET waiting. -/
def waitingPin : State := { State.reset with pending := [.pinReset] }

theorem waitingPin_node (p : NodeId) : waitingPin.node p = NodePort.initial := by simp [waitingPin, State.node, State.reset]
theorem waitingPin_trunk (p : TrunkId) : waitingPin.trunk p = Trunk.initial := by simp [waitingPin, State.trunk, State.reset]
theorem waitingPin_stream (i : StreamId) : waitingPin.stream i = Stream.initial := by simp [waitingPin, State.stream, State.reset]
theorem waitingPin_group (g : GroupId) : waitingPin.group g = Group.initial := by simp [waitingPin, State.group, State.reset]

theorem test_meets_EveryStepKeepsThePiecesLawful : waitingPin.PiecesLawful := by
  have hz := counters_lawful_of_zero
  refine ⟨fun p => ?_, fun p => ?_, fun i => ?_, fun g => ?_, ?_, by decide, fun h => absurd rfl h⟩
  · rw [waitingPin_node]; simp [NodePort.Lawful, NodePort.initial, hz]
  · rw [waitingPin_trunk]; simp [Trunk.Lawful, Trunk.initial, hz]
  · rw [waitingPin_stream]; simp [Stream.Lawful, Stream.initial, hz]
  · rw [waitingPin_group]
    simp [Group.paramsLawful, Templates.Lawful, slotsLawful, Group.initial, Templates.initial, hz]
  · simp [FaultLog.Lawful, waitingPin, State.reset, FaultLog.initial]

theorem test_meets_EveryStepKeepsTheRowLaw : waitingPin.rowsLawful := by
  refine ⟨?_, fun g => by rw [waitingPin_group]; exact List.nodup_nil⟩
  rw [State.openRowIds, waitingPin_group, waitingPin_group]
  simp [Group.initial, waitingPin, State.reset]

theorem test_meets_EveryStepKeepsBindingsWhereNamed : waitingPin.bindingsLawful := by
  intro i g; rw [waitingPin_stream, waitingPin_group]; simp [Stream.initial, Group.initial, Templates.initial]

theorem test_meets_EveryStepKeepsTheWindowLaws : waitingPin.WindowsLawful := by
  refine ⟨fun g => ?_, fun w e h => by simp [waitingPin, State.reset] at h⟩
  rw [waitingPin_group]
  simp [Group.paramsLawful, Group.windowLawful, Group.stateLawful, Group.queueLawful, Group.initial, Templates.initial]

theorem test_meets_EveryStepKeepsTheCellLaw : waitingPin.BanksLawful ∧ waitingPin.cellsLawful := by
  refine ⟨fun g => ?_, ?_⟩
  · rw [waitingPin_group]; simp [Templates.Lawful, slotsLawful, Group.initial, Templates.initial]
  · rw [State.cellsLawful, waitingPin_group, waitingPin_group]; simp [Group.heldCells, Group.initial, waitingPin, State.reset]

theorem test_meets_EveryStepKeepsTheQueueBound :
    waitingPin.queuesBounded ∧ ∃ t, step waitingPin = .next t ∧ t.hold = .pin :=
  ⟨fun g => by rw [waitingPin_group]; exact Nat.zero_le 8, _, rfl, rfl⟩

theorem test_step_from_reset : step State.reset = .next { State.reset with time := 1 } := by
  rw [show step State.reset = .next State.reset.tick from rfl, test_idle_step_counts]

end Sys2Proof.Tests
end

section
/-! Words and set-valued arguments (R173, R175): what a word read back as a number is, which words name a stream, and what a partial
write does to a list of words. -/

namespace Sys2Proof.Machine

@[simp] theorem natWord_toNat (w : Word) : natWord w.toNat = w := by
  simp [natWord]

theorem natWord_of_toNat {w : Word} {n : Nat} (h : w.toNat = n) : natWord n = w := by
  rw [← h, natWord_toNat]

/-- A word that counts 0 or 1 is the flag word of its being 1. -/
theorem flagWord_beq_one {w : Word} (h : w.toNat ≤ 1) : flagWord (w == 1) = w := by
  have : w = 0 ∨ w = 1 := by bv_omega
  rcases this with rfl | rfl <;> rfl

theorem argStream_eq_none_iff {w : Word} : argStream w = none ↔ 64 ≤ w.toNat := by
  simp [argStream]

theorem argNode_eq_none_iff {w : Word} : argNode w = none ↔ 16 ≤ w.toNat := by
  simp [argNode]

@[simp] theorem argStream_natWord (i : StreamId) : argStream (natWord i.val) = some i := by
  have hi : (natWord i.val).toNat = i.val := by
    have := i.isLt
    simp only [natWord, BitVec.toNat_ofNat]; omega
  simp [argStream, hi]

theorem natWord_of_argNode {w : Word} {p : NodeId} (h : argNode w = some p) : natWord p.val = w := by
  unfold argNode at h
  split at h
  · cases h; exact natWord_toNat w
  · cases h

theorem setInRange_eq_false_iff {n : Nat} {set : Word} : setInRange n set = false ↔ set.toNat = 0 ∨ 2 ^ n ≤ set.toNat := by
  simp only [setInRange, decide_eq_false_iff_not]; omega

theorem setInRange_eq_true_iff {n : Nat} {set : Word} : setInRange n set = true ↔ 1 ≤ set.toNat ∧ set.toNat < 2 ^ n := by
  simp [setInRange]

theorem writtenWords_getElem? (set : Word) (values old : List Word) (i : Nat) :
    (writtenWords set values old)[i]? = old[i]?.map fun w => (namedValue set values i).getD w := by
  simp [writtenWords, Function.comp_def]

end Sys2Proof.Machine
end

section
/-! The engine's taking of one request (R139, R140): from the answer that a request's checks give to the statement's `Answers` and
`Refuses`. -/

namespace Sys2Proof.Machine

variable {c : Instr} {s : State} {p : TrunkId} {r : Request} {rest : List Request} {mine : Request → Bool}
  {act : State → TrunkId → Request → Answer}

/-- A served request that the command takes is answered by what its checks and effects come to. -/
theorem answers_of_act {u : State} {status : Status} {results : List Word} (served : s.Serves p r rest)
    (command : exec c s = .next (s.takeRequest mine act)) (own : mine r = true)
    (answer : act (s.afterTaking p rest) p r = { state := u, status := status, results := results }) :
    Answers c s p r u status results := by
  rw [Answers, command, State.takeRequest_of_serves served, if_pos own, answer]
  rfl

theorem refuses_of_act {status : Status} (served : s.Serves p r rest) (command : exec c s = .next (s.takeRequest mine act))
    (own : mine r = true) (answer : act (s.afterTaking p rest) p r = (s.afterTaking p rest).refuse status) :
    Refuses c s p r rest status :=
  answers_of_act served command own answer

end Sys2Proof.Machine
end

section
/-! The loss monitor's step for one entry (R25 to R28), as equations, and the fill kind (R89). -/

namespace Sys2Proof.Machine

section
variable {s : State} {g : GroupId} {n : Instant} {e : Entry}

theorem State.stepMonitor_of_not_bound (h : (s.stream e.stream).group ≠ some g) : s.stepMonitor g n e = s := by
  rw [State.stepMonitor, if_neg h]

theorem State.stepMonitor_of_real {c : CellId} (h : (s.stream e.stream).group = some g) (he : e.content = .real c) :
    s.stepMonitor g n e = s.stepReal g n e.stream := by
  rw [State.stepMonitor, if_pos h, he]

theorem State.stepMonitor_of_fill {kind : FillKind} (h : (s.stream e.stream).group = some g) (he : e.content = .fill kind) :
    s.stepMonitor g n e = s.stepFill g n e.stream := by
  rw [State.stepMonitor, if_pos h, he]

end

/-- The fill run after one more fill entry: it rises by 1 and stays at 255 (R26). -/
def Stream.nextFillRun (x : Stream) : Nat := if x.fillRun < 255 then x.fillRun + 1 else 255

/-- One more fill entry makes the stream LOST: it is WAITING or LIVE, and its new run is at or above its threshold (R26). -/
def Stream.losesOnFill (x : Stream) : Bool :=
  decide (x.state = .waiting ∨ x.state = .live) && decide (x.threshold ≤ x.nextFillRun)

theorem Stream.min_fillRun_eq_nextFillRun (x : Stream) : min (x.fillRun + 1) 255 = x.nextFillRun := by
  unfold Stream.nextFillRun
  split <;> omega

theorem Stream.losesOnFill_iff {x : Stream} :
    x.losesOnFill = true ↔ (x.state = .waiting ∨ x.state = .live) ∧ x.threshold ≤ x.nextFillRun := by
  simp [Stream.losesOnFill]

/-- A fill entry's step as one change of the stream entry, and the logging that goes with a loss (R26, R28, R37). -/
theorem State.stepFill_eq (s : State) (g : GroupId) (n : Instant) (i : StreamId) :
    s.stepFill g n i =
      let t := s.modStream i fun x =>
        { x with
          fillRun := (s.stream i).nextFillRun, counters := raise x.counters StreamCounter.fillEntries.index 1
          state := if (s.stream i).losesOnFill then .lost else x.state }
      if (s.stream i).losesOnFill then t.logFault (streamLogging .streamLost g i n) else t := by
  simp only [State.stepFill, State.countStream, State.modStream_modStream, Stream.min_fillRun_eq_nextFillRun]
  by_cases lost : (s.stream i).losesOnFill = true
  · rw [if_pos (Stream.losesOnFill_iff.mp lost)]
    simp only [lost, if_true]
  · rw [if_neg (mt Stream.losesOnFill_iff.mpr lost)]
    simp only [lost, Bool.false_eq_true, if_false]

/-- The fill kind by policy; under HOLD the state before the step decides (R89). -/
theorem Stream.fillKind_cases (x : Stream) :
    (x.fillPolicy = .zero → x.fillKind = .zero) ∧ (x.fillPolicy = .constant → x.fillKind = .const) ∧
      (x.fillPolicy = .hold → x.state = .live → x.fillKind = .hold) ∧
      (x.fillPolicy = .hold → x.state ≠ .live → x.fillKind = .zero) := by
  refine ⟨fun h => ?_, fun h => ?_, fun h live => ?_, fun h other => ?_⟩
  · rw [Stream.fillKind, h]
  · rw [Stream.fillKind, h]
  · rw [Stream.fillKind, h]; exact if_pos live
  · rw [Stream.fillKind, h]; exact if_neg other

/-- Settles O22: the step splits by the stream's binding and the entry's content; a fill entry's step is `State.stepFill_eq`. -/
theorem lossMonitorAndFillKind : Obligations.LossMonitorAndFillKind := by
  refine ⟨fun s g n e c real => ⟨fun bound => ?_, State.stepMonitor_of_not_bound⟩,
    fun s g n e kind _ unbound => State.stepMonitor_of_not_bound unbound, fun s g n e kind fill bound => ?_,
    Stream.fillKind_cases⟩
  · rw [State.stepMonitor_of_real bound real]
    rfl
  · rw [State.stepMonitor_of_fill bound fill]
    exact s.stepFill_eq g n e.stream

end Sys2Proof.Machine
end

section
/-! WRITE_STREAM (R33 to R36): what one field's write does to the configuration words, what the write of all named fields comes to,
and the request's checks in order. -/

namespace Sys2Proof.Machine

/-! ### One field -/

/-- The entry `x` with the eight configuration fields of `y`: every other field stays. -/
def Stream.withConfigOf (x y : Stream) : Stream :=
  { x with
    enabled := y.enabled, port := y.port, length := y.length, offset := y.offset, fillPolicy := y.fillPolicy
    fillConstant := y.fillConstant, dupPolicy := y.dupPolicy, threshold := y.threshold }

/-- A field's write is absent exactly when the value lies outside the field's range (R33). -/
theorem Stream.writeField_eq_none_iff (x : Stream) (k : Nat) (w : Word) :
    x.writeField k w = none ↔ ¬streamFieldInRange k w := by
  unfold Stream.writeField streamFieldInRange
  split
  case h_2 => -- bound port
    simp only [Option.map_eq_none_iff, argNode_eq_none_iff]; omega
  case h_5 => -- fill policy
    split_ifs <;> simp <;> omega
  case h_7 => -- duplicate policy
    split_ifs <;> simp <;> omega
  all_goals simp

/-- A field's write sets the field's configuration word and changes nothing beside the configuration. -/
theorem Stream.writeField_eq_some {x y : Stream} {k : Nat} {w : Word} (h : x.writeField k w = some y) :
    y.configWords = x.configWords.set k w ∧ y = x.withConfigOf y := by
  unfold Stream.writeField at h
  split at h
  case h_1 => -- enabled flag
    split_ifs at h with hw; cases h
    exact ⟨congrArg (x.configWords.set 0) (flagWord_beq_one hw), rfl⟩
  case h_2 => -- bound port
    obtain ⟨p, hp, rfl⟩ := Option.map_eq_some_iff.mp h
    exact ⟨congrArg (x.configWords.set 1) (natWord_of_argNode hp), rfl⟩
  case h_3 => -- payload length
    split_ifs at h; cases h
    exact ⟨congrArg (x.configWords.set 2) (natWord_toNat w), rfl⟩
  case h_4 => -- instant offset
    split_ifs at h; cases h
    exact ⟨congrArg (x.configWords.set 3) BitVec.ofInt_toInt, rfl⟩
  case h_5 => -- fill policy
    split_ifs at h with h0 h1 h2 <;> cases h
    · exact ⟨congrArg (x.configWords.set 4) (natWord_of_toNat h0), rfl⟩
    · exact ⟨congrArg (x.configWords.set 4) (natWord_of_toNat h1), rfl⟩
    · exact ⟨congrArg (x.configWords.set 4) (natWord_of_toNat h2), rfl⟩
  case h_6 => -- fill constant
    cases h
    exact ⟨rfl, rfl⟩
  case h_7 => -- duplicate policy
    split_ifs at h with h0 h1 <;> cases h
    · exact ⟨congrArg (x.configWords.set 6) (natWord_of_toNat h0), rfl⟩
    · exact ⟨congrArg (x.configWords.set 6) (natWord_of_toNat h1), rfl⟩
  case h_8 => -- loss threshold
    split_ifs at h; cases h
    exact ⟨congrArg (x.configWords.set 7) (natWord_toNat w), rfl⟩
  case h_9 => -- no such field
    cases h

/-! ### All named fields -/

/-- The write of the named fields among the first `n` (R33). -/
def Stream.writeFirst (n : Nat) (set : Word) (values : List Word) (x : Stream) : Option Stream :=
  (List.range n).foldlM (Stream.writeNamed set values) x

theorem Stream.writeAll_eq_writeFirst (set : Word) (values : List Word) (x : Stream) :
    x.writeAll set values = x.writeFirst 8 set values := rfl

@[simp] theorem Stream.writeFirst_zero (set : Word) (values : List Word) (x : Stream) : x.writeFirst 0 set values = some x := rfl

theorem Stream.writeFirst_succ (n : Nat) (set : Word) (values : List Word) (x : Stream) :
    x.writeFirst (n + 1) set values = (x.writeFirst n set values).bind fun y => y.writeNamed set values n := by
  simp [Stream.writeFirst, List.range_succ]

/-- Whether a field's write is absent does not depend on the entry. -/
theorem Stream.writeNamed_eq_none_iff {set : Word} {values : List Word} {x : Stream} {k : Nat} :
    x.writeNamed set values k = none ↔ ∃ v, namedValue set values k = some v ∧ ¬streamFieldInRange k v := by
  unfold Stream.writeNamed
  cases namedValue set values k <;> simp [Stream.writeField_eq_none_iff]

/-- The write of a field, if the set names it, touches that field's configuration word alone. -/
theorem Stream.writeNamed_eq_some {set : Word} {values : List Word} {x y : Stream} {k : Nat}
    (h : x.writeNamed set values k = some y) :
    y = x.withConfigOf y ∧ ∀ i, y.configWords[i]? = x.configWords[i]?.map fun w =>
      if i = k then (namedValue set values i).getD w else w := by
  unfold Stream.writeNamed at h
  split at h
  next v hv =>
    obtain ⟨words, kept⟩ := Stream.writeField_eq_some h
    refine ⟨kept, fun i => ?_⟩
    rw [words]
    by_cases hi : i = k
    · subst hi
      cases hx : x.configWords[i]? <;> simp [hv, hx, List.getElem?_set_self']
    · simp [hi, List.getElem?_set_ne (Ne.symm hi)]
  next hv =>
    cases h
    refine ⟨rfl, fun i => ?_⟩
    by_cases hi : i = k
    · subst hi; simp [hv]
    · simp [hi]

/-- The write is absent exactly when some named value lies outside its range (R33). -/
theorem Stream.writeFirst_eq_none_iff {n : Nat} {set : Word} {values : List Word} {x : Stream} :
    x.writeFirst n set values = none ↔ ∃ k v, k < n ∧ namedValue set values k = some v ∧ ¬streamFieldInRange k v := by
  induction n with
  | zero => simp
  | succ n ih =>
    rw [Stream.writeFirst_succ, Option.bind_eq_none_iff]
    constructor
    · intro h
      cases hy : x.writeFirst n set values with
      | none =>
        obtain ⟨k, v, hk, named, out⟩ := ih.mp hy
        exact ⟨k, v, by omega, named, out⟩
      | some y =>
        obtain ⟨v, named, out⟩ := Stream.writeNamed_eq_none_iff.mp (h y hy)
        exact ⟨n, v, by omega, named, out⟩
    · rintro ⟨k, v, hk, named, out⟩ y hy
      rcases Nat.lt_succ_iff_lt_or_eq.mp hk with hk | rfl
      · rw [ih.mpr ⟨k, v, hk, named, out⟩] at hy; cases hy
      · exact Stream.writeNamed_eq_none_iff.mpr ⟨v, named, out⟩

/-- The write gives each named field its value word and leaves everything else. -/
theorem Stream.writeFirst_eq_some {n : Nat} {set : Word} {values : List Word} {x y : Stream}
    (h : x.writeFirst n set values = some y) :
    y = x.withConfigOf y ∧ ∀ i, y.configWords[i]? = x.configWords[i]?.map fun w =>
      if i < n then (namedValue set values i).getD w else w := by
  induction n generalizing y with
  | zero => cases h; simp [Stream.withConfigOf]
  | succ n ih =>
    rw [Stream.writeFirst_succ] at h
    obtain ⟨z, hz, hy⟩ := Option.bind_eq_some_iff.mp h
    obtain ⟨keptz, wordsz⟩ := ih hz
    obtain ⟨kept, words⟩ := Stream.writeNamed_eq_some hy
    refine ⟨by rw [kept, keptz]; rfl, fun i => ?_⟩
    rw [words, wordsz, Option.map_map]
    congr 1
    funext w
    rcases Nat.lt_trichotomy i n with lt | rfl | gt
    · simp [lt, lt.ne, Nat.lt_succ_of_lt lt]
    · simp
    · simp [gt.ne', show ¬i < n by omega, show ¬i < n + 1 by omega]

theorem Stream.length_configWords (x : Stream) : x.configWords.length = 8 := rfl

/-- The write of all named fields: the configuration words are those of the partial write, and the rest of the entry stays (R33). -/
theorem Stream.writeAll_eq_some {set : Word} {values : List Word} {x y : Stream} (h : x.writeAll set values = some y) :
    y.configWords = writtenWords set values x.configWords ∧ y = x.withConfigOf y := by
  rw [Stream.writeAll_eq_writeFirst] at h
  obtain ⟨kept, words⟩ := Stream.writeFirst_eq_some h
  refine ⟨List.ext_getElem? fun i => ?_, kept⟩
  rw [words, writtenWords_getElem?]
  by_cases hi : i < 8
  · simp [hi]
  · rw [List.getElem?_eq_none (by rw [Stream.length_configWords]; omega)]; rfl

theorem Stream.writeAll_eq_none_iff {set : Word} {values : List Word} {x : Stream} :
    x.writeAll set values = none ↔ ∃ k v, k < 8 ∧ namedValue set values k = some v ∧ ¬streamFieldInRange k v := by
  rw [Stream.writeAll_eq_writeFirst, Stream.writeFirst_eq_none_iff]

/-- IN_USE (R35): the payload length is one of the restricted fields. -/
theorem Stream.writeForbidden_iff {x : Stream} {set : Word} :
    x.writeForbidden set = true ↔
      (∃ k, k < 4 ∧ set.getLsbD k = true) ∧ x.state ≠ .unbound ∨ set.getLsbD 2 = true ∧ 0 < x.refs := by
  simp only [Stream.writeForbidden, Nat.exists_lt_succ_right, Nat.not_lt_zero, false_and, exists_false, false_or, Bool.and_eq_true,
    Bool.or_eq_true, bne_iff_ne, decide_eq_true_eq]
  tauto

/-! ### The request -/

section
variable {s : State} {p : TrunkId} {r : Request} {w set : Word} {values : List Word}

theorem actWriteStream_of_short (h : r.args.length < 2) : actWriteStream s p r = s.refuse .badLength := by
  unfold actWriteStream
  split
  next args => simp [args] at h
  next => rfl

theorem actWriteStream_of_miscounted (args : r.args = w :: set :: values) (h : values.length ≠ namedCount 8 set) :
    actWriteStream s p r = s.refuse .badLength := by
  simp [actWriteStream, args, h]

theorem actWriteStream_of_bad_argument (args : r.args = w :: set :: values) (counted : values.length = namedCount 8 set)
    (h : argStream w = none ∨ setInRange 8 set = false ∨ ∀ x : Stream, x.writeAll set values = none) :
    actWriteStream s p r = s.refuse .badArgument := by
  simp only [actWriteStream, args, counted]
  cases hi : argStream w with
  | none => simp
  | some i =>
    cases hs : setInRange 8 set with
    | false => simp
    | true =>
      have out : ∀ x : Stream, x.writeAll set values = none := by simpa [hi, hs] using h
      simp [out]

theorem actWriteStream_of_good_arguments {i : StreamId} {x : Stream} (args : r.args = w :: set :: values)
    (counted : values.length = namedCount 8 set) (stream : argStream w = some i) (inRange : setInRange 8 set = true)
    (written : (s.stream i).writeAll set values = some x) :
    actWriteStream s p r =
      if (s.stream i).writeForbidden set then s.refuse .inUse
      else (s.setStream i x).accept [natWord x.state.code, natWord x.fillRun] := by
  simp [actWriteStream, args, counted, stream, inRange, written]

end

/-- A request with name code 3 is WRITE_STREAM's (R175). -/
theorem named_writeStream {r : Request} (h : r.name = 3) : r.named .writeStream = true := by
  rw [Request.named, h]; rfl

/-- The taking of a request leaves the stream table. -/
theorem State.afterTaking_stream (s : State) (p : TrunkId) (rest : List Request) (i : StreamId) :
    (s.afterTaking p rest).stream i = s.stream i := rfl

/-- Settles O37: each check, in order, gives its answer; past them all, `Stream.writeAll_eq_some` says what is written. -/
theorem writeStreamWritesTheNamedFields : Obligations.WriteStreamWritesTheNamedFields := by
  intro s p r rest served name
  have own := named_writeStream name
  have refuses {status : Status} (h : actWriteStream (s.afterTaking p rest) p r = (s.afterTaking p rest).refuse status) :
      Refuses .writeStream s p r rest status := refuses_of_act served rfl own h
  refine ⟨fun short => refuses (actWriteStream_of_short short), fun w set values args =>
    ⟨fun miscounted => refuses (actWriteStream_of_miscounted args miscounted), fun counted => ⟨fun bad => ?_, ?_⟩⟩⟩
  · refine refuses (actWriteStream_of_bad_argument args counted ?_)
    rw [argStream_eq_none_iff, setInRange_eq_false_iff]
    rcases bad with stream | empty | beyond | out
    · exact .inl stream
    · exact .inr (.inl (.inl empty))
    · exact .inr (.inl (.inr beyond))
    · exact .inr (.inr fun x => Stream.writeAll_eq_none_iff.mpr out)
  · rintro i rfl nonempty within fieldsInRange
    obtain ⟨x, written⟩ : ∃ x, (s.stream i).writeAll set values = some x := by
      refine Option.ne_none_iff_exists'.mp fun absent => ?_
      obtain ⟨k, v, hk, named, out⟩ := Stream.writeAll_eq_none_iff.mp absent
      exact out (fieldsInRange k v hk named)
    obtain ⟨words, kept⟩ := Stream.writeAll_eq_some written
    have answer := actWriteStream_of_good_arguments (s := s.afterTaking p rest) (p := p) args counted (argStream_natWord i)
      (setInRange_eq_true_iff.mpr ⟨nonempty, within⟩) written
    rw [State.afterTaking_stream] at answer
    refine ⟨fun inUse => refuses ?_, fun free => ⟨x, words, kept, answers_of_act served rfl own ?_⟩⟩
    · rw [answer, if_pos (Stream.writeForbidden_iff.mpr inUse)]
    · rw [answer, if_neg (mt Stream.writeForbidden_iff.mp free), kept]
      rfl

end Sys2Proof.Machine
end

section
/-! Group arguments (R174), and the name check of a request (R175). -/

namespace Sys2Proof.Machine

theorem argGroup_eq_none_iff {w : Word} : argGroup w = none ↔ 2 ≤ w.toNat := by
  simp only [argGroup, dite_eq_right_iff, reduceCtorEq, imp_false, Nat.not_lt]

@[simp] theorem argGroup_natWord (g : GroupId) : argGroup (natWord g.val) = some g := by
  revert g; decide

theorem Request.named_of_ofCode {r : Request} {x : RequestName} (h : RequestName.ofCode r.name = some x) :
    r.named x = true := by
  simp [Request.named, h]

/-- The taking of a request leaves the groups. -/
theorem State.afterTaking_group (s : State) (p : TrunkId) (rest : List Request) (g : GroupId) :
    (s.afterTaking p rest).group g = s.group g := rfl

end Sys2Proof.Machine
end

section
/-! The slot list that a TEMPLATE_LOAD carries (R40, R43): which words spell one, and the two checks on the list itself. -/

namespace Sys2Proof.Machine

theorem natWord_toNat_of_lt {n : Nat} (h : n < 2 ^ 32) : (natWord n).toNat = n := by
  rw [natWord, BitVec.toNat_ofNat, Nat.mod_eq_of_lt h]

theorem slotOfWords_eq_none_iff {a c f : Word} :
    slotOfWords a c f = none ↔
      64 ≤ a.toNat ∨ ¬(c.toNat = 1 ∨ c.toNat = 2 ∨ c.toNat = 4 ∨ c.toNat = 8) ∨ c.toNat ≤ f.toNat := by
  unfold slotOfWords
  cases stream : argStream a with
  | none => simp [argStream_eq_none_iff.mp stream]
  | some i =>
    have named : ¬64 ≤ a.toNat := mt argStream_eq_none_iff.mpr (by simp [stream])
    simp only [ite_eq_right_iff, reduceCtorEq, imp_false]
    omega

/-- The three words of a slot in its ranges spell that slot. -/
theorem slotOfWords_of_lawful {x : Slot} (h : x.Lawful) :
    slotOfWords (natWord x.stream.val) (natWord x.cadence) (natWord x.phase) = some x := by
  obtain ⟨cadence, phase⟩ := h
  have hc : (natWord x.cadence).toNat = x.cadence := natWord_toNat_of_lt (by omega)
  have hf : (natWord x.phase).toNat = x.phase := natWord_toNat_of_lt (by omega)
  rw [slotOfWords, argStream_natWord, hc, hf]
  exact if_pos ⟨cadence, phase⟩

theorem slotsOfWords_flatMap_slotWords {slots : List Slot} (h : ∀ x ∈ slots, x.Lawful) :
    slotsOfWords (slots.flatMap slotWords) = some slots := by
  induction slots with
  | nil => rfl
  | cons x xs ih =>
    obtain ⟨first, others⟩ := List.forall_mem_cons.mp h
    simp [slotWords, slotsOfWords, slotOfWords_of_lawful first, ih others]

/-- Three words stand for each slot of the list. -/
theorem length_of_slotsOfWords {words : List Word} {slots : List Slot} (h : slotsOfWords words = some slots) :
    words.length = 3 * slots.length := by
  fun_induction slotsOfWords words generalizing slots with
  | case1 a c f rest x xs hxs hx ih =>
    cases h
    simp only [List.length_cons, ih hxs]
    omega
  | case2 => cases h
  | case3 => cases h; rfl
  | case4 => cases h

/-- One triple of words that spells no slot leaves the whole list unread. -/
theorem slotsOfWords_eq_none {words : List Word} {j : Nat} {a c f : Word} (ha : words[3 * j]? = some a)
    (hc : words[3 * j + 1]? = some c) (hf : words[3 * j + 2]? = some f) (bad : slotOfWords a c f = none) :
    slotsOfWords words = none := by
  fun_induction slotsOfWords words generalizing j with
  | case1 a' c' f' rest x xs hxs hx ih =>
    cases j with
    | zero =>
      cases ha; cases hc; cases hf
      rw [bad] at hx; cases hx
    | succ j =>
      have rest_none : slotsOfWords rest = none := ih (j := j) ha hc hf
      rw [rest_none] at hxs; cases hxs
  | case2 => rfl
  | case3 => simp at ha
  | case4 => rfl

theorem slotsDistinct_iff {slots : List Slot} : slotsDistinct slots = true ↔ (slots.map Slot.stream).Nodup := by
  induction slots with
  | nil => simp [slotsDistinct]
  | cons x xs ih => simp [slotsDistinct, namesStream_eq_false, ih]

theorem State.slotsEnabled_iff {s : State} {slots : List Slot} :
    s.slotsEnabled slots = true ↔ ∀ x ∈ slots, (s.stream x.stream).enabled = true := by
  simp [State.slotsEnabled]

/-- The list names a stream twice, or one that is not enabled: what CONFLICT answers (R43). -/
theorem State.loadConflict_iff {s : State} {slots : List Slot} :
    slotsDistinct slots = false ∨ s.slotsEnabled slots = false ↔
      ¬(slots.map Slot.stream).Nodup ∨ ∃ x ∈ slots, (s.stream x.stream).enabled = false := by
  simp [← slotsDistinct_iff, State.slotsEnabled]

end Sys2Proof.Machine
end

section
/-! TEMPLATE_LOAD and TEMPLATE_COPY (R43, R44): what each check answers. -/

namespace Sys2Proof.Machine

section
variable {s : State} {p : TrunkId} {r : Request} {w count : Word} {words : List Word} {g : GroupId} {slots : List Slot}

/-- The IDLE bank of `g` holds this list (R43, R44). -/
def State.setIdleSlots (s : State) (g : GroupId) (slots : List Slot) : State :=
  s.modGroup g fun x => { x with templates := { x.templates with otherSlots := slots } }

theorem actTemplateLoad_of_short (h : r.args.length < 2) : actTemplateLoad s p r = s.refuse .badLength := by
  unfold actTemplateLoad
  split
  next args => simp [args] at h
  next => rfl

theorem actTemplateLoad_of_miscounted (args : r.args = w :: count :: words) (h : words.length ≠ 3 * count.toNat) :
    actTemplateLoad s p r = s.refuse .badLength := by
  simp [actTemplateLoad, args, h]

theorem actTemplateLoad_of_bad_argument (args : r.args = w :: count :: words) (counted : words.length = 3 * count.toNat)
    (h : argGroup w = none ∨ 32 < count.toNat ∨ slotsOfWords words = none) :
    actTemplateLoad s p r = s.refuse .badArgument := by
  simp only [actTemplateLoad, args, counted]
  cases hg : argGroup w with
  | none => simp
  | some g =>
    cases hs : slotsOfWords words with
    | none => simp
    | some slots =>
      have same := length_of_slotsOfWords hs
      have many : 32 < slots.length := by
        have : 32 < count.toNat := by simpa [hg, hs] using h
        omega
      simp [many]

/-- Past the argument checks, the ARMED bank is looked for first, then a conflict in the list. -/
theorem actTemplateLoad_of_good_arguments (args : r.args = w :: count :: words) (counted : words.length = 3 * count.toNat)
    (group : argGroup w = some g) (read : slotsOfWords words = some slots) (few : slots.length ≤ 32) :
    actTemplateLoad s p r =
      if (s.group g).templates.armed.isSome then s.refuse .locked
      else if slotsDistinct slots = false ∨ s.slotsEnabled slots = false then s.refuse .conflict
      else (s.setIdleSlots g slots).accept [natWord slots.length] := by
  simp only [actTemplateLoad, args, counted, group, read, ne_eq, not_true_eq_false, if_false, if_neg (Nat.not_lt.mpr few)]
  rfl

theorem actTemplateCopy_of_miscounted (h : r.args.length ≠ 1) : actTemplateCopy s p r = s.refuse .badLength := by
  unfold actTemplateCopy
  split
  next args => simp [args] at h
  next => rfl

theorem actTemplateCopy_of_bad_argument (args : r.args = [w]) (h : argGroup w = none) :
    actTemplateCopy s p r = s.refuse .badArgument := by
  simp [actTemplateCopy, args, h]

theorem actTemplateCopy_of_group (args : r.args = [w]) (group : argGroup w = some g) :
    actTemplateCopy s p r =
      if (s.group g).templates.armed.isSome then s.refuse .locked
      else (s.setIdleSlots g (s.group g).templates.activeSlots).accept [natWord (s.group g).templates.activeSlots.length] := by
  simp only [actTemplateCopy, args, group]
  rfl

end

/-- Settles O38: each check, in order, gives its answer; a lawful list's words are read back as that list
(`slotsOfWords_flatMap_slotWords`), and one triple out of range spoils the whole list (`slotsOfWords_eq_none`). -/
theorem templateLoadAndCopyEditTheIdleBank : Obligations.TemplateLoadAndCopyEditTheIdleBank := by
  intro s p r rest served u
  refine ⟨fun name => ?load, fun name => ?copy⟩
  case load =>
    have own : r.named .templateLoad = true := Request.named_of_ofCode (by rw [name]; rfl)
    have refuses {status : Status} (h : actTemplateLoad u p r = u.refuse status) :
        Refuses .templateLoad s p r rest status := refuses_of_act served rfl own h
    refine ⟨fun short => refuses (actTemplateLoad_of_short short), fun w count words args =>
      ⟨fun miscounted => refuses (actTemplateLoad_of_miscounted args miscounted), fun counted bad => ?_⟩,
      fun g slots lawful few args => ?_⟩
    · refine refuses (actTemplateLoad_of_bad_argument args counted ?_)
      rcases bad with group | many | ⟨j, a, c, f, -, ha, hc, hf, out⟩
      · exact .inl (argGroup_eq_none_iff.mpr group)
      · exact .inr (.inl many)
      · exact .inr (.inr (slotsOfWords_eq_none ha hc hf (slotOfWords_eq_none_iff.mpr out)))
    · have read : slotsOfWords (slots.flatMap slotWords) = some slots := slotsOfWords_flatMap_slotWords lawful
      have counted : (slots.flatMap slotWords).length = 3 * (natWord slots.length).toNat := by
        rw [length_of_slotsOfWords read, natWord_toNat_of_lt (by omega)]
      have answer := actTemplateLoad_of_good_arguments (s := u) (p := p) args counted (argGroup_natWord g) read few
      rw [State.afterTaking_group] at answer
      refine ⟨fun armed => refuses ?_, fun idle => ⟨fun conflict => refuses ?_, fun distinct enabled =>
        answers_of_act served rfl own ?_⟩⟩
      · rw [answer, if_pos (Option.isSome_iff_ne_none.mpr armed)]
      · rw [answer, idle, if_neg (by simp), if_pos ((State.loadConflict_iff (s := u)).mpr conflict)]
      · rw [answer, idle, if_neg (by simp),
          if_neg (by simp [slotsDistinct_iff.mpr distinct, (State.slotsEnabled_iff (s := u)).mpr enabled])]
        rfl
  case copy =>
    have own : r.named .templateCopy = true := Request.named_of_ofCode (by rw [name]; rfl)
    have refuses {status : Status} (h : actTemplateCopy u p r = u.refuse status) :
        Refuses .templateCopy s p r rest status := refuses_of_act served rfl own h
    refine ⟨fun miscounted => refuses (actTemplateCopy_of_miscounted miscounted), fun w args out =>
      refuses (actTemplateCopy_of_bad_argument args (argGroup_eq_none_iff.mpr out)), fun g args => ?_⟩
    have answer := actTemplateCopy_of_group (s := u) (p := p) args (argGroup_natWord g)
    rw [State.afterTaking_group] at answer
    refine ⟨fun armed => refuses ?_, fun idle => answers_of_act served rfl own ?_⟩
    · rw [answer, if_pos (Option.isSome_iff_ne_none.mpr armed)]
    · rw [answer, idle, if_neg (by simp)]
      rfl

end Sys2Proof.Machine
end

section
/-! TEMPLATE_CANCEL (R54): what each check answers, and the state that an accepted cancel leaves. -/

namespace Sys2Proof.Machine

/-- With no ARMED bank, only the ACTIVE list names a stream (R23). -/
theorem Templates.names_of_not_armed {t : Templates} (h : t.armed = none) (i : StreamId) :
    t.names i = namesStream t.activeSlots i := by
  simp [Templates.names, h]

section
variable {s : State} {g : GroupId}

theorem State.cancelArmed_group_self :
    (s.cancelArmed g).group g = { s.group g with templates := { (s.group g).templates with armed := none } } := by
  simp [State.cancelArmed]

theorem State.cancelArmed_group_of_ne {g' : GroupId} (h : g' ≠ g) : (s.cancelArmed g).group g' = s.group g' := by
  simp [State.cancelArmed, State.group_modGroup_of_ne (h := h.symm)]

/-- The streams that only the ARMED bank named are unbound (R23, R54). -/
theorem State.cancelArmed_stream (i : StreamId) :
    (s.cancelArmed g).stream i =
      if (s.stream i).group = some g ∧ (∀ y ∈ (s.group g).templates.activeSlots, y.stream ≠ i) then (s.stream i).unbind
      else s.stream i := by
  rw [State.cancelArmed, State.unbindUnnamed, State.stream_mapStreams]
  exact if_congr (by simp [Templates.names_of_not_armed, namesStream_eq_false]) rfl rfl

/-- An accepted cancel touches the groups and the stream table alone. -/
theorem State.cancelArmed_eq :
    s.cancelArmed g = { s with groups := (s.cancelArmed g).groups, streams := (s.cancelArmed g).streams } := rfl

end

section
variable {s : State} {p : TrunkId} {r : Request} {w : Word} {g : GroupId} {a : Armed}

theorem actTemplateCancel_of_miscounted (h : r.args.length ≠ 1) : actTemplateCancel s p r = s.refuse .badLength := by
  unfold actTemplateCancel
  split
  next args => simp [args] at h
  next => rfl

theorem actTemplateCancel_of_bad_argument (args : r.args = [w]) (h : argGroup w = none) :
    actTemplateCancel s p r = s.refuse .badArgument := by
  simp [actTemplateCancel, args, h]

theorem actTemplateCancel_of_not_armed (args : r.args = [w]) (group : argGroup w = some g)
    (idle : (s.group g).templates.armed = none) : actTemplateCancel s p r = s.refuse .state := by
  simp [actTemplateCancel, args, group, idle]

theorem actTemplateCancel_of_armed (args : r.args = [w]) (group : argGroup w = some g)
    (armed : (s.group g).templates.armed = some a) :
    actTemplateCancel s p r =
      if ∃ y ∈ (s.group g).rows, y.generation = a.generation then s.refuse .inUse
      else (s.cancelArmed g).accept [natWord a.generation.toNat] := by
  simp [actTemplateCancel, args, group, armed]

end

/-- Settles O40: each check, in order, gives its answer; past them, the lemmas about `State.cancelArmed` say what is left. -/
theorem templateCancelWithdrawsTheArmedBank : Obligations.TemplateCancelWithdrawsTheArmedBank := by
  intro s p r rest served name u
  have own : r.named .templateCancel = true := Request.named_of_ofCode (by rw [name]; rfl)
  have refuses {status : Status} (h : actTemplateCancel u p r = u.refuse status) :
      Refuses .templateCancel s p r rest status := refuses_of_act served rfl own h
  refine ⟨fun miscounted => refuses (actTemplateCancel_of_miscounted miscounted), fun w args out =>
    refuses (actTemplateCancel_of_bad_argument args (argGroup_eq_none_iff.mpr out)), fun g args =>
    ⟨fun idle => refuses (actTemplateCancel_of_not_armed args (argGroup_natWord g) idle), fun a armed => ?_⟩⟩
  have answer := actTemplateCancel_of_armed (s := u) (p := p) args (argGroup_natWord g) armed
  rw [State.afterTaking_group] at answer
  refine ⟨fun inUse => refuses ?_, fun unused => ⟨u.cancelArmed g, answers_of_act served rfl own ?_,
    State.cancelArmed_group_self, fun _ other => State.cancelArmed_group_of_ne other, State.cancelArmed_stream,
    State.cancelArmed_eq⟩⟩
  · rw [answer, if_pos inUse]
  · rw [answer, if_neg (by simpa using unused)]
    rfl

end Sys2Proof.Machine
end

section
/-! Steps 10 to 14 of the classification (R72 to R75), as equations, and the synchronisation of an unset cursor (R67). -/

namespace Sys2Proof.Machine

section
variable {s : State} {g : GroupId} {n : Instant} {k : Nat} {gen : Generation} {m : SampleMsg}

/-! ### Steps 12 to 14 (R74, R75) -/

/-- Step 14: an attempt is handed when the group's ripe governing row is the one for `n`. -/
theorem State.attemptIfRipe_eq :
    s.attemptIfRipe g n =
      if (s.group g).ripeGoverning.map Row.instant = some n then s.modGroup g fun x => { x with attempts := x.attempts + 1 }
      else s := by
  unfold State.attemptIfRipe
  split
  next r ripe => simp [ripe, State.handAttempt]
  next unripe => simp [unripe]

theorem State.store_of_no_cell (empty : s.freeCells = []) : s.store g n k m = s.exhaustCell g := by
  simp only [State.store, empty]

theorem State.store_of_cell {c : CellId} {cs : List CellId} (free : s.freeCells = c :: cs) :
    s.store g n k m =
      ((({ s with freeCells := cs }.writeCell c m.payload).modGroup g fun x =>
        { x.fillSlot n k c with lateRun := 0, lateLogged := false }).countStream m.stream .accepted).attemptIfRipe g n := by
  simp only [State.store, free]

theorem State.openAndStore_of_no_cell (empty : s.freeCells = []) : s.openAndStore g n k gen m = s.exhaustCell g := by
  simp only [State.openAndStore, empty]

theorem State.openAndStore_of_no_row (cells : s.freeCells ≠ []) (empty : s.freeRows = []) :
    s.openAndStore g n k gen m = s.exhaustRow g := by
  obtain ⟨c, cs, free⟩ := List.exists_cons_of_ne_nil cells
  simp only [State.openAndStore, free, empty]

/-! ### Steps 10 and 11 (R72, R73) -/

theorem State.placeMessage_of_free_slot {r : Row} (row : (s.group g).rowAt n = some r) (slot : r.slotMap[k]? = some none) :
    s.placeMessage g n k gen m = s.store g n k m := by
  simp [State.placeMessage, row, slot]

theorem State.placeMessage_of_filled_slot {r : Row} {c : CellId} (row : (s.group g).rowAt n = some r)
    (slot : r.slotMap[k]? = some (some c)) : s.placeMessage g n k gen m = s.takeDuplicate c m := by
  simp [State.placeMessage, row, slot]

theorem State.placeMessage_of_no_row (running : (s.group g).state = .running) (row : (s.group g).rowAt n = none) :
    s.placeMessage g n k gen m = s.openAndStore g n k gen m := by
  simp [State.placeMessage, row, running]

/-! ### Step 7 (R67) -/

/-- An unset cursor is set without a switch. -/
theorem State.moveCursor_of_unset (unset : (s.group g).cursor = none) :
    s.moveCursor g n = s.modGroup g fun x => { x with cursor := some n } := by
  simp only [State.moveCursor, unset]

/-- A message that synchronises its group lies at the cursor, so in the window, and goes on to step 10. -/
theorem State.synchronise_of_unset {p : NodeId} (running : (s.group g).state = .running) (unset : (s.group g).cursor = none)
    (depth : 1 ≤ (s.group g).depth) :
    s.synchronise p g n k gen m = (s.modGroup g fun x => { x with cursor := some n }).placeMessage g n k gen m := by
  have atCursor : position n (s.group g).depth n = .inWindow := position_inWindow (by rw [BitVec.sub_self]; exact depth)
  simp [State.synchronise, unset, running, State.moveCursor_of_unset, State.placeAgainst, atCursor]

end

/-- Settles O15: the message goes on to step 10, at once or past the synchronisation of step 7, and the open row's slot or the
empty pool decides which equation of steps 11 to 14 it meets. -/
theorem arrivalForAnOpenRowOrAnEmptyPool : Obligations.ArrivalForAnOpenRowOrAnEmptyPool := by
  refine ⟨?freeSlot, ?filledSlot, ?emptyPool, ?emptyPoolUnset⟩
  case freeSlot =>
    intro s p m g n k gen e r places cursor inWindow row slot
    rw [State.classify_of_places places, State.synchronise_of_inWindow cursor inWindow, State.placeMessage_of_free_slot row slot]
    refine ⟨fun empty => State.store_of_no_cell empty, fun c cs free => ?_⟩
    rw [State.store_of_cell free, State.attemptIfRipe_eq]
    rfl
  case filledSlot =>
    intro s p m g n k gen e r c places cursor inWindow row slot
    rw [State.classify_of_places places, State.synchronise_of_inWindow cursor inWindow,
      State.placeMessage_of_filled_slot row slot]
    rfl
  case emptyPool =>
    intro s p m g n k gen e places running cursor inWindow row
    rw [State.classify_of_places places, State.synchronise_of_inWindow cursor inWindow,
      State.placeMessage_of_no_row running row]
    exact ⟨State.openAndStore_of_no_cell, State.openAndStore_of_no_row⟩
  case emptyPoolUnset =>
    intro s p m g n k gen places running unset depth row synchronised
    have reaches : s.classify p m = synchronised.openAndStore g n k gen m := by
      rw [State.classify_of_places places, State.synchronise_of_unset running unset depth]
      exact State.placeMessage_of_no_row (by simpa using running) (by simpa [Group.rowAt] using row)
    rw [reaches]
    exact ⟨State.openAndStore_of_no_cell (s := synchronised), State.openAndStore_of_no_row (s := synchronised)⟩

end Sys2Proof.Machine
end

section
/-! GROUP_SET (R103): what one parameter's write does to the parameter words, what the write of all named parameters comes to, and the
request's checks in order. -/

namespace Sys2Proof.Machine

/-! ### Writes in turn -/

section
variable {α : Type} {f : α → Nat → Option α}

/-- Writes that fail by their item alone, whatever was written before, fail in turn exactly when one of them does. -/
theorem foldlM_range_eq_none_iff {bad : Nat → Prop} (absent : ∀ x k, f x k = none ↔ bad k) (n : Nat) (x : α) :
    (List.range n).foldlM f x = none ↔ ∃ k, k < n ∧ bad k := by
  induction n with
  | zero => simp
  | succ n ih =>
    simp only [List.range_succ, List.foldlM_append, List.foldlM_cons, List.foldlM_nil, bind_pure, Option.bind_eq_bind,
      Nat.exists_lt_succ_right, ← ih]
    cases (List.range n).foldlM f x <;> simp [absent]

/-- What holds before the writes, and is carried by each write from its item to the next, holds after them. -/
theorem foldlM_range_induction {P : Nat → α → Prop} {x : α} (start : P 0 x)
    (step : ∀ {k y z}, P k y → f y k = some z → P (k + 1) z) {n : Nat} {z : α} (h : (List.range n).foldlM f x = some z) :
    P n z := by
  induction n generalizing z with
  | zero => cases h; exact start
  | succ n ih =>
    simp only [List.range_succ, List.foldlM_append, List.foldlM_cons, List.foldlM_nil, bind_pure] at h
    obtain ⟨y, before, last⟩ := Option.bind_eq_some_iff.mp h
    exact step (ih before) last

end

/-! ### The parameters of a group -/

/-- The group `x` with the four parameters of `y`: every other field stays. -/
def Group.withParamsOf (x y : Group) : Group :=
  { x with depth := y.depth, holdTime := y.holdTime, early := y.early, empty := y.empty }

/-- A parameter's write is absent exactly when the value lies outside the parameter's range (R103). -/
theorem Group.writeParam_eq_none_iff {x : Group} {k : Nat} {w : Word} : x.writeParam k w = none ↔ ¬groupParamInRange k w := by
  unfold Group.writeParam groupParamInRange
  split
  case h_3 => -- early policy
    split_ifs <;> simp <;> omega
  case h_4 => -- empty policy
    split_ifs <;> simp <;> omega
  all_goals simp

/-- A parameter's write sets the parameter's word and changes nothing beside the parameters. -/
theorem Group.writeParam_eq_some {x y : Group} {k : Nat} {w : Word} (h : x.writeParam k w = some y) :
    y.paramWords = x.paramWords.set k w ∧ y = x.withParamsOf y := by
  unfold Group.writeParam at h
  split at h
  case h_1 => -- depth
    split_ifs at h; cases h
    exact ⟨congrArg (x.paramWords.set 0) (natWord_toNat w), rfl⟩
  case h_2 => -- hold time
    split_ifs at h; cases h
    exact ⟨congrArg (x.paramWords.set 1) (natWord_toNat w), rfl⟩
  case h_3 => -- early policy
    split_ifs at h with h0 h1 <;> cases h
    · exact ⟨congrArg (x.paramWords.set 2) (natWord_of_toNat h0), rfl⟩
    · exact ⟨congrArg (x.paramWords.set 2) (natWord_of_toNat h1), rfl⟩
  case h_4 => -- empty policy
    split_ifs at h with h0 h1 <;> cases h
    · exact ⟨congrArg (x.paramWords.set 3) (natWord_of_toNat h0), rfl⟩
    · exact ⟨congrArg (x.paramWords.set 3) (natWord_of_toNat h1), rfl⟩
  case h_5 => -- no such parameter
    cases h

theorem Group.writeNamed_eq_none_iff {set : Word} {values : List Word} (x : Group) (k : Nat) :
    x.writeNamed set values k = none ↔ ∃ v, namedValue set values k = some v ∧ ¬groupParamInRange k v := by
  unfold Group.writeNamed
  cases namedValue set values k <;> simp [Group.writeParam_eq_none_iff]

/-- `y` is `x` once the named parameters among the first `n` have taken their value words. -/
def Group.WrittenFirst (set : Word) (values : List Word) (x : Group) (n : Nat) (y : Group) : Prop :=
  y = x.withParamsOf y ∧ ∀ i, y.paramWords[i]? = x.paramWords[i]?.map fun w =>
    if i < n then (namedValue set values i).getD w else w

theorem Group.writtenFirst_zero {set : Word} {values : List Word} {x : Group} : x.WrittenFirst set values 0 x :=
  ⟨rfl, fun i => by simp⟩

theorem Group.WrittenFirst.succ {set : Word} {values : List Word} {x y z : Group} {k : Nat} (h : x.WrittenFirst set values k y)
    (written : y.writeNamed set values k = some z) : x.WrittenFirst set values (k + 1) z := by
  obtain ⟨kept, words⟩ := h
  unfold Group.writeNamed at written
  split at written
  next v named =>
    obtain ⟨newWords, kept'⟩ := Group.writeParam_eq_some written
    refine ⟨by rw [kept', kept]; rfl, fun i => ?_⟩
    rw [newWords, List.getElem?_set', words]
    by_cases hi : k = i
    · subst hi
      cases x.paramWords[k]? <;> simp [named]
    · simp [hi, show i < k + 1 ↔ i < k by omega]
  next named =>
    cases written
    refine ⟨kept, fun i => (words i).trans ?_⟩
    by_cases hi : i = k
    · subst hi; simp [named]
    · simp [show i < k + 1 ↔ i < k by omega]

theorem Group.writeAll_eq_none_iff {set : Word} {values : List Word} {x : Group} :
    x.writeAll set values = none ↔ ∃ k v, k < 4 ∧ namedValue set values k = some v ∧ ¬groupParamInRange k v := by
  rw [Group.writeAll, foldlM_range_eq_none_iff Group.writeNamed_eq_none_iff]
  simp

/-- The write of all named parameters: the parameter words are those of the partial write, and the rest of the group stays (R103). -/
theorem Group.writeAll_eq_some {set : Word} {values : List Word} {x y : Group} (h : x.writeAll set values = some y) :
    y.paramWords = writtenWords set values x.paramWords ∧ y = x.withParamsOf y := by
  obtain ⟨kept, words⟩ : x.WrittenFirst set values 4 y :=
    foldlM_range_induction Group.writtenFirst_zero Group.WrittenFirst.succ h
  refine ⟨List.ext_getElem? fun i => ?_, kept⟩
  rw [words, writtenWords_getElem?]
  by_cases hi : i < 4
  · simp [hi]
  · rw [List.getElem?_eq_none (show x.paramWords.length ≤ i from Nat.not_lt.mp hi)]; rfl

/-- STATE (R103): the group is RUNNING or DRAINING. -/
theorem GroupState.isActive_iff {x : GroupState} : x.isActive = true ↔ x = .running ∨ x = .draining := by
  cases x <;> simp [GroupState.isActive, GroupState.isStopped]

/-! ### The request -/

section
variable {s : State} {p : TrunkId} {r : Request} {w set : Word} {values : List Word}

theorem actGroupSet_of_short (h : r.args.length < 2) : actGroupSet s p r = s.refuse .badLength := by
  unfold actGroupSet
  split
  next args => simp [args] at h
  next => rfl

theorem actGroupSet_of_miscounted (args : r.args = w :: set :: values) (h : values.length ≠ namedCount 4 set) :
    actGroupSet s p r = s.refuse .badLength := by
  simp [actGroupSet, args, h]

theorem actGroupSet_of_bad_argument (args : r.args = w :: set :: values) (counted : values.length = namedCount 4 set)
    (h : argGroup w = none ∨ setInRange 4 set = false ∨ ∀ x : Group, x.writeAll set values = none) :
    actGroupSet s p r = s.refuse .badArgument := by
  simp only [actGroupSet, args, counted]
  cases hg : argGroup w with
  | none => simp
  | some g =>
    cases hs : setInRange 4 set with
    | false => simp
    | true =>
      have out : ∀ x : Group, x.writeAll set values = none := by simpa [hg, hs] using h
      simp [out]

theorem actGroupSet_of_good_arguments {g : GroupId} {x : Group} (args : r.args = w :: set :: values)
    (counted : values.length = namedCount 4 set) (group : argGroup w = some g) (inRange : setInRange 4 set = true)
    (written : (s.group g).writeAll set values = some x) :
    actGroupSet s p r = if (s.group g).state.isActive then s.refuse .state else (s.setGroup g x).accept x.paramWords := by
  simp [actGroupSet, args, counted, group, inRange, written]

end

/-- Settles O41: each check, in order, gives its answer; past them all, `Group.writeAll_eq_some` says what is written. -/
theorem groupSetWritesTheNamedParameters : Obligations.GroupSetWritesTheNamedParameters := by
  intro s p r rest served name
  have own : r.named .groupSet = true := Request.named_of_ofCode (by rw [name]; rfl)
  have refuses {status : Status} (h : actGroupSet (s.afterTaking p rest) p r = (s.afterTaking p rest).refuse status) :
      Refuses .groupSet s p r rest status := refuses_of_act served rfl own h
  refine ⟨fun short => refuses (actGroupSet_of_short short), fun w set values args =>
    ⟨fun miscounted => refuses (actGroupSet_of_miscounted args miscounted), fun counted => ⟨fun bad => ?_, ?_⟩⟩⟩
  · refine refuses (actGroupSet_of_bad_argument args counted ?_)
    rw [argGroup_eq_none_iff, setInRange_eq_false_iff]
    rcases bad with group | empty | beyond | out
    · exact .inl group
    · exact .inr (.inl (.inl empty))
    · exact .inr (.inl (.inr beyond))
    · exact .inr (.inr fun x => Group.writeAll_eq_none_iff.mpr out)
  · rintro g rfl nonempty within paramsInRange
    obtain ⟨x, written⟩ : ∃ x, (s.group g).writeAll set values = some x := by
      refine Option.ne_none_iff_exists'.mp fun absent => ?_
      obtain ⟨k, v, hk, named, out⟩ := Group.writeAll_eq_none_iff.mp absent
      exact out (paramsInRange k v hk named)
    obtain ⟨words, kept⟩ := Group.writeAll_eq_some written
    have answer := actGroupSet_of_good_arguments (s := s.afterTaking p rest) (p := p) args counted (argGroup_natWord g)
      (setInRange_eq_true_iff.mpr ⟨nonempty, within⟩) written
    rw [State.afterTaking_group] at answer
    refine ⟨fun active => refuses ?_, fun stopped => ⟨x, words, kept, answers_of_act served rfl own ?_⟩⟩
    · rw [answer, if_pos (GroupState.isActive_iff.mpr active)]
    · rw [answer, if_neg (by rcases stopped with h | h <;> simp [GroupState.isActive_iff, h])]
      rfl

end Sys2Proof.Machine
end

section
/-! The switch (R51, R52) and the restart of a group's streams (R24): what each makes of the groups and of the stream table. -/

namespace Sys2Proof.Machine

variable {s : State} {g : GroupId}

/-- The switch unbinds the streams that were bound to the group and stand in no slot of the bank that was ARMED (R23, R51). -/
theorem State.switchUnbinds_iff {i : StreamId} :
    s.switchUnbinds g i = true ↔ (s.group g).templates.armed ≠ none ∧ (s.stream i).group = some g ∧
      ∀ y ∈ (s.group g).templates.otherSlots, y.stream ≠ i := by
  simp [State.switchUnbinds, Option.isSome_iff_ne_none, and_assoc]

theorem Templates.switched_of_armed {t : Templates} {a : Armed} (h : t.armed = some a) : t.switched = t.swap a.generation := by
  rw [Templates.switched, h]
  rfl

theorem Templates.switched_of_not_armed {t : Templates} (h : t.armed = none) : t.switched = t := by
  rw [Templates.switched, h]

theorem State.takeSwitch_of_not_armed (h : (s.group g).templates.armed = none) : s.takeSwitch g = s := by
  rw [State.takeSwitch, h]

theorem State.takeSwitch_of_armed {a : Armed} (h : (s.group g).templates.armed = some a) :
    s.takeSwitch g = (s.modGroup g fun x => { x with templates := x.templates.swap a.generation }).unbindUnnamed g := by
  rw [State.takeSwitch, h]

theorem State.takeSwitch_group_self :
    (s.takeSwitch g).group g = { s.group g with templates := (s.group g).templates.switched } := by
  cases armed : (s.group g).templates.armed with
  | none => rw [State.takeSwitch_of_not_armed armed, Templates.switched_of_not_armed armed]
  | some a => simp [State.takeSwitch_of_armed armed, Templates.switched_of_armed armed]

theorem State.takeSwitch_group_of_ne {g' : GroupId} (h : g' ≠ g) : (s.takeSwitch g).group g' = s.group g' := by
  cases armed : (s.group g).templates.armed with
  | none => rw [State.takeSwitch_of_not_armed armed]
  | some a => simp [State.takeSwitch_of_armed armed, State.group_modGroup_of_ne (h := h.symm)]

theorem State.takeSwitch_stream (i : StreamId) :
    (s.takeSwitch g).stream i = if s.switchUnbinds g i then (s.stream i).unbind else s.stream i := by
  cases armed : (s.group g).templates.armed with
  | none => rw [State.takeSwitch_of_not_armed armed, if_neg (by simp [State.switchUnbinds_iff, armed])]
  | some a =>
    rw [State.takeSwitch_of_armed armed, State.unbindUnnamed, State.stream_mapStreams]
    refine if_congr ?_ rfl rfl
    rw [State.switchUnbinds_iff, State.group_modGroup_self, Templates.names_of_not_armed rfl]
    simp [armed, Templates.swap, namesStream_eq_false]

/-- The switch touches the groups and the stream table alone. -/
theorem State.takeSwitch_eq :
    s.takeSwitch g = { s with groups := (s.takeSwitch g).groups, streams := (s.takeSwitch g).streams } := by
  apply State.ext_fields <;> simp

@[simp] theorem State.restartStreams_stream (i : StreamId) :
    (s.restartStreams g).stream i = if (s.stream i).group = some g then (s.stream i).restart else s.stream i := by
  rw [State.restartStreams, State.stream_mapStreams]

end Sys2Proof.Machine
end

section
/-! Requests whose only argument is a group (R174): BAD_LENGTH, BAD_ARGUMENT, and then what the request makes of the group named. -/

namespace Sys2Proof.Machine

/-- The answer to a request that names one group: the two checks on its arguments in order, then the answer `f` for that group. -/
def answerForGroup (f : State → GroupId → Answer) (s : State) (r : Request) : Answer :=
  match r.args with
  | [w] =>
    match argGroup w with
    | none => s.refuse .badArgument
    | some g => f s g
  | _ => s.refuse .badLength

variable {f : State → GroupId → Answer} {c : Instr} {s : State} {p : TrunkId} {r : Request} {rest : List Request}
  {mine : Request → Bool} {act : State → TrunkId → Request → Answer}

theorem answerForGroup_of_miscounted (h : r.args.length ≠ 1) : answerForGroup f s r = s.refuse .badLength := by
  unfold answerForGroup
  split
  next args => simp [args] at h
  next => rfl

theorem answerForGroup_of_bad_argument {w : Word} (args : r.args = [w]) (h : argGroup w = none) :
    answerForGroup f s r = s.refuse .badArgument := by
  simp [answerForGroup, args, h]

theorem answerForGroup_of_group {g : GroupId} (args : r.args = [natWord g.val]) : answerForGroup f s r = f s g := by
  simp [answerForGroup, args]

/-- A served request that names one group: the refusals of its two argument checks, and what its act comes to past them. -/
theorem checks_of_answerForGroup (served : s.Serves p r rest) (command : exec c s = .next (s.takeRequest mine act))
    (own : mine r = true) (form : act (s.afterTaking p rest) p r = answerForGroup f (s.afterTaking p rest) r) :
    (r.args.length ≠ 1 → Refuses c s p r rest .badLength) ∧
      (∀ w, r.args = [w] → 2 ≤ w.toNat → Refuses c s p r rest .badArgument) ∧
      ∀ g : GroupId, r.args = [natWord g.val] → act (s.afterTaking p rest) p r = f (s.afterTaking p rest) g :=
  ⟨fun miscounted => refuses_of_act served command own (form.trans (answerForGroup_of_miscounted miscounted)),
    fun _ args out => refuses_of_act served command own
      (form.trans (answerForGroup_of_bad_argument args (argGroup_eq_none_iff.mpr out))),
    fun _ args => form.trans (answerForGroup_of_group args)⟩

end Sys2Proof.Machine
end

section
/-! GROUP_START and GROUP_STOP (R104, R106): what each answers in each group state, and the completion of a drain (R108). -/

namespace Sys2Proof.Machine

section
variable {s : State} {p : TrunkId} {r : Request} {g : GroupId}

/-- GROUP_START's answer for group `g`, past the checks of its arguments (R104, R105). -/
def State.answerStart (s : State) (g : GroupId) : Answer :=
  match (s.group g).state with
  | .aborting => s.refuse .state
  | .stopped =>
    if (s.group g).templates.activeSlots = [] then s.refuse .noTemplate
    else (s.startGroup g).accept [natWord GroupState.running.code]
  | .running => s.accept [natWord GroupState.running.code]
  | .draining => (s.modGroup g fun x => { x with state := .running }).accept [natWord GroupState.running.code]

/-- GROUP_STOP's answer for group `g`, past the checks of its arguments (R106). -/
def State.answerStop (s : State) (g : GroupId) : Answer :=
  (s.stopGroup g).accept [natWord ((s.stopGroup g).group g).state.code]

theorem actGroupStart_eq : actGroupStart s p r = answerForGroup State.answerStart s r := rfl

theorem actGroupStop_eq : actGroupStop s p r = answerForGroup State.answerStop s r := rfl

theorem State.answerStart_of_aborting (h : (s.group g).state = .aborting) : s.answerStart g = s.refuse .state := by
  rw [State.answerStart, h]

theorem State.answerStart_of_no_template (h : (s.group g).state = .stopped) (empty : (s.group g).templates.activeSlots = []) :
    s.answerStart g = s.refuse .noTemplate := by
  simp only [State.answerStart, h, empty, if_true]

theorem State.answerStart_of_stopped (h : (s.group g).state = .stopped) (listed : (s.group g).templates.activeSlots ≠ []) :
    s.answerStart g = (s.startGroup g).accept [natWord GroupState.running.code] := by
  simp only [State.answerStart, h, listed, if_false]

theorem State.answerStart_of_running (h : (s.group g).state = .running) :
    s.answerStart g = s.accept [natWord GroupState.running.code] := by
  rw [State.answerStart, h]

theorem State.answerStart_of_draining (h : (s.group g).state = .draining) :
    s.answerStart g = (s.modGroup g fun x => { x with state := .running }).accept [natWord GroupState.running.code] := by
  rw [State.answerStart, h]

theorem Group.isEmpty_iff {x : Group} : x.isEmpty = true ↔ x.rows = [] ∧ x.queue = [] := by
  simp [Group.isEmpty]

theorem State.stopGroup_of_not_running (h : (s.group g).state ≠ .running) : s.stopGroup g = s := by
  unfold State.stopGroup
  split
  next running => exact absurd running h
  all_goals rfl

theorem State.stopGroup_of_holding (h : (s.group g).state = .running) (holding : (s.group g).rows ≠ [] ∨ (s.group g).queue ≠ []) :
    s.stopGroup g = s.modGroup g fun x => { x with state := .draining } := by
  rw [State.stopGroup, h]
  exact if_neg (by rw [Group.isEmpty_iff]; tauto)

theorem State.stopGroup_of_empty (h : (s.group g).state = .running) (rows : (s.group g).rows = []) (queue : (s.group g).queue = []) :
    s.stopGroup g = s.completeDrain g := by
  rw [State.stopGroup, h]
  exact if_pos (Group.isEmpty_iff.mpr ⟨rows, queue⟩)

theorem State.completeDrain_group_self :
    (s.completeDrain g).group g =
      { s.group g with
        state := .stopped, cursor := none, lateRun := 0, lateLogged := false, templates := (s.group g).templates.switched } := by
  simp [State.completeDrain, State.takeSwitch_group_self, Group.clearWindow]

theorem State.completeDrain_group_of_ne {g' : GroupId} (h : g' ≠ g) : (s.completeDrain g).group g' = s.group g' := by
  rw [State.completeDrain, State.takeSwitch_group_of_ne h, State.group_modGroup_of_ne (h := h.symm)]

theorem State.completeDrain_stream (i : StreamId) :
    (s.completeDrain g).stream i = if s.switchUnbinds g i then (s.stream i).unbind else s.stream i := by
  rw [State.completeDrain, State.takeSwitch_stream]
  exact if_congr (by simp [State.switchUnbinds_iff, Group.clearWindow]) rfl rfl

/-- A completed drain touches the groups and the stream table alone. -/
theorem State.completeDrain_eq :
    s.completeDrain g = { s with groups := (s.completeDrain g).groups, streams := (s.completeDrain g).streams } := by
  apply State.ext_fields <;> simp

end

/-- Settles O42: past the argument checks, `State.answerStart` splits by the group's state, and a stop by `State.stopGroup`'s three
cases; what a completed drain leaves is said by the lemmas about `State.completeDrain`. -/
theorem groupStartAndStop : Obligations.GroupStartAndStop := by
  intro s p r rest served u
  refine ⟨fun name => ?start, fun name => ?stop⟩
  case start =>
    have own : r.named .groupStart = true := Request.named_of_ofCode (by rw [name]; rfl)
    obtain ⟨badLength, badArgument, answer⟩ := checks_of_answerForGroup (c := .groupStart) served rfl own actGroupStart_eq
    refine ⟨badLength, badArgument, fun g args => ⟨fun aborting => ?_, fun stopped empty => ?_, fun stopped listed => ?_,
      fun running => ?_, fun draining => ?_⟩⟩
    · exact refuses_of_act served rfl own ((answer g args).trans (State.answerStart_of_aborting aborting))
    · exact refuses_of_act served rfl own ((answer g args).trans (State.answerStart_of_no_template stopped empty))
    · exact answers_of_act served rfl own ((answer g args).trans (State.answerStart_of_stopped stopped listed))
    · exact answers_of_act served rfl own ((answer g args).trans (State.answerStart_of_running running))
    · exact answers_of_act served rfl own ((answer g args).trans (State.answerStart_of_draining draining))
  case stop =>
    have own : r.named .groupStop = true := Request.named_of_ofCode (by rw [name]; rfl)
    obtain ⟨badLength, badArgument, answer⟩ := checks_of_answerForGroup (c := .groupStop) served rfl own actGroupStop_eq
    refine ⟨badLength, badArgument, fun g args => ⟨fun other => ?_, fun running holding => ?_, fun running rows queue =>
      ⟨u.completeDrain g, ?_, State.completeDrain_group_self, fun _ other => State.completeDrain_group_of_ne other, fun i => ?_,
        State.completeDrain_eq⟩⟩⟩
    · refine answers_of_act served rfl own ((answer g args).trans ?_)
      rw [State.answerStop, State.stopGroup_of_not_running (s := u) other]
      rfl
    · refine answers_of_act served rfl own ((answer g args).trans ?_)
      rw [State.answerStop, State.stopGroup_of_holding (s := u) running holding, State.group_modGroup_self]
      rfl
    · refine answers_of_act served rfl own ((answer g args).trans ?_)
      rw [State.answerStop, State.stopGroup_of_empty (s := u) running rows queue, State.completeDrain_group_self]
      rfl
    · rw [State.completeDrain_stream]
      exact if_congr State.switchUnbinds_iff rfl rfl

end Sys2Proof.Machine
end

section
/-! GROUP_ABORT (R110): the state that an abort leaves. -/

namespace Sys2Proof.Machine

section
variable {s : State} {p : TrunkId} {r : Request} {g : GroupId}

/-- GROUP_ABORT's answer for group `g`, past the checks of its arguments (R110). -/
def State.answerAbort (s : State) (g : GroupId) : Answer :=
  (s.abortGroup g).accept
    [natWord (abortState (s.group g).kept).code, natWord (s.group g).rows.length, natWord (s.group g).discardable.length,
     natWord (s.group g).kept.length]

theorem actGroupAbort_eq : actGroupAbort s p r = answerForGroup State.answerAbort s r := rfl

theorem abortState_eq (kept : List FrameRecord) : abortState kept = if kept = [] then .stopped else .aborting := by
  cases kept <;> rfl

theorem natWord_code_abortState (kept : List FrameRecord) : natWord (abortState kept).code = if kept = [] then 0 else 1 := by
  cases kept <;> rfl

theorem State.releaseAll_group_self :
    (s.releaseAll g).group g = { s.group g with rows := [], queue := (s.group g).kept } := by
  simp [State.releaseAll]

theorem State.releaseAll_group_of_ne {g' : GroupId} (h : g' ≠ g) : (s.releaseAll g).group g' = s.group g' := by
  simp [State.releaseAll, State.group_modGroup_of_ne (h := h.symm)]

theorem State.releaseAll_stream (i : StreamId) :
    (s.releaseAll g).stream i =
      { s.stream i with
        refs := (s.stream i).refs - (((s.group g).discardable.flatMap FrameRecord.entries).map Entry.stream).count i } := by
  simp [State.releaseAll, State.dropRefs_stream]

theorem State.releaseAll_freeRows : (s.releaseAll g).freeRows = s.freeRows ++ (s.group g).rows.map Row.rowId := by
  simp [State.releaseAll, State.freeRowList]

theorem State.releaseAll_freeCells :
    (s.releaseAll g).freeCells =
      s.freeCells ++ (s.group g).rows.flatMap Row.cellList ++ (s.group g).discardable.flatMap fun y => realCells y.entries := by
  simp [State.releaseAll, State.freeCellList]

theorem State.abortGroup_group_self :
    (s.abortGroup g).group g =
      { s.group g with
        state := abortState (s.group g).kept, cursor := none, rows := [], lateRun := 0, lateLogged := false
        queue := (s.group g).kept, counters := raise (s.group g).counters GroupCounter.aborts.index 1
        templates := (s.group g).templates.switched } := by
  simp [State.abortGroup, State.countGroup, State.releaseAll_group_self, State.takeSwitch_group_self, Group.clearWindow,
    Group.kept]

theorem State.abortGroup_group_of_ne {g' : GroupId} (h : g' ≠ g) : (s.abortGroup g).group g' = s.group g' := by
  simp [State.abortGroup, State.countGroup, State.group_modGroup_of_ne (h := h.symm), State.releaseAll_group_of_ne h,
    State.takeSwitch_group_of_ne h]

theorem State.abortGroup_freeRows : (s.abortGroup g).freeRows = s.freeRows ++ (s.group g).rows.map Row.rowId := by
  simp [State.abortGroup, State.releaseAll_freeRows, State.takeSwitch_group_self]

theorem State.abortGroup_freeCells :
    (s.abortGroup g).freeCells =
      s.freeCells ++ (s.group g).rows.flatMap Row.cellList ++ (s.group g).discardable.flatMap fun y => realCells y.entries := by
  simp [State.abortGroup, State.releaseAll_freeCells, State.takeSwitch_group_self, Group.discardable]

/-- The switch comes first, so that a stream it unbinds is not set WAITING (R52, R110). -/
theorem State.abortGroup_stream (i : StreamId) :
    (s.abortGroup g).stream i =
      { (if (s.stream i).group = some g then
          if s.switchUnbinds g i then (s.stream i).unbind else (s.stream i).restart
        else s.stream i) with
        refs := (s.stream i).refs - (((s.group g).discardable.flatMap FrameRecord.entries).map Entry.stream).count i } := by
  have discards : ((s.takeSwitch g).group g).discardable = (s.group g).discardable := by
    rw [State.takeSwitch_group_self]; rfl
  simp only [State.abortGroup, State.countGroup, State.modGroup_stream, State.restartStreams_stream, State.releaseAll_stream,
    State.takeSwitch_stream, discards]
  by_cases bound : (s.stream i).group = some g
  · cases unbinds : s.switchUnbinds g i <;> simp [bound, Stream.unbind, Stream.restart]
  · have stays : s.switchUnbinds g i = false := by
      simp [State.switchUnbinds, bound]
    simp [bound, stays]

/-- An abort touches the groups, the stream table and the two free lists alone. -/
theorem State.abortGroup_eq :
    s.abortGroup g = { s with
      groups := (s.abortGroup g).groups, streams := (s.abortGroup g).streams, freeRows := (s.abortGroup g).freeRows
      freeCells := (s.abortGroup g).freeCells } := by
  apply State.ext_fields <;> simp

end

/-- Settles O43: past the argument checks, the lemmas about `State.abortGroup` say what is left of each piece of state. -/
theorem groupAbortReleasesEverything : Obligations.GroupAbortReleasesEverything := by
  intro s p r rest served name
  have own : r.named .groupAbort = true := Request.named_of_ofCode (by rw [name]; rfl)
  obtain ⟨badLength, badArgument, answer⟩ := checks_of_answerForGroup (c := .groupAbort) served rfl own actGroupAbort_eq
  refine ⟨badLength, badArgument, fun g args => ?_⟩
  intro u x kept gone
  refine ⟨u.abortGroup g, ?reply, ?group, fun _ other => State.abortGroup_group_of_ne other,
    .of_eq State.abortGroup_freeRows, .of_eq State.abortGroup_freeCells, fun i => ?stream, State.abortGroup_eq⟩
  case reply =>
    refine answers_of_act served rfl own ((answer g args).trans ?_)
    rw [State.answerAbort, natWord_code_abortState]
    rfl
  case group =>
    rw [State.abortGroup_group_self, abortState_eq]
    rfl
  case stream =>
    intro y leaves
    have unbinds : u.switchUnbinds g i = true ↔ y.group = some g ∧ leaves := by
      rw [State.switchUnbinds_iff]; exact and_left_comm
    rw [State.abortGroup_stream, State.afterTaking_stream]
    by_cases bound : y.group = some g
    · by_cases left : leaves
      · rw [if_pos bound, if_pos (unbinds.mpr ⟨bound, left⟩)]
        simp only [bound, left, and_self, if_true]
        rfl
      · rw [if_pos bound, if_neg (fun h => left (unbinds.mp h).2)]
        simp only [if_pos bound, left, and_false, if_false]
        rfl
    · rw [if_neg bound]
      simp only [bound, false_and, if_false]
      rfl

end Sys2Proof.Machine
end

section
/-! Requests that take no argument (R141, R145, R154) and codes that name no request (R175). -/

namespace Sys2Proof.Machine

/-- The sixteen node ports, in order, are the vector's entries. -/
theorem State.nodes_toList (s : State) : s.nodes.toList = (List.finRange 16).map s.node := by
  apply List.ext_getElem <;> simp [State.node]

theorem RequestName.ofCode_eq_none {code : Byte} (h : code = 0 ∨ 23 ≤ code.toNat) : RequestName.ofCode code = none := by
  rcases h with rfl | beyond
  · rfl
  · exact List.getD_eq_default _ _ beyond

/-- The answer to a request that takes no argument: the check on its arguments, then the answer `a`. -/
def answerWithoutArguments (a : Answer) (s : State) (r : Request) : Answer :=
  if r.args.length ≠ 0 then s.refuse .badLength else a

section
variable {a : Answer} {c : Instr} {s : State} {p : TrunkId} {r : Request} {rest : List Request} {mine : Request → Bool}
  {act : State → TrunkId → Request → Answer}

theorem answerWithoutArguments_of_some (h : r.args ≠ []) : answerWithoutArguments a s r = s.refuse .badLength :=
  if_pos (mt List.length_eq_zero_iff.mp h)

theorem answerWithoutArguments_of_none (h : r.args = []) : answerWithoutArguments a s r = a :=
  if_neg (not_not_intro (List.length_eq_zero_iff.mpr h))

/-- A served request that takes no argument: the refusal of its argument check, and the answer it gives past it. -/
theorem checks_of_answerWithoutArguments (served : s.Serves p r rest) (command : exec c s = .next (s.takeRequest mine act))
    (own : mine r = true) (form : act (s.afterTaking p rest) p r = answerWithoutArguments a (s.afterTaking p rest) r) :
    (r.args ≠ [] → Refuses c s p r rest .badLength) ∧ (r.args = [] → Answers c s p r a.state a.status a.results) :=
  ⟨fun given => refuses_of_act served command own (form.trans (answerWithoutArguments_of_some given)),
    fun bare => answers_of_act served command own (form.trans (answerWithoutArguments_of_none bare))⟩

theorem actPing_eq :
    actPing s p r = answerWithoutArguments
      (s.accept [1602, 1, natWord s.cause.code, natWord s.softCount, natWord p.val, s.time]) s r := rfl

theorem actPortStatus_eq :
    actPortStatus s p r = answerWithoutArguments
      (s.accept ((List.finRange 16).flatMap fun q => (s.node q).statusWords)) s r := by
  rw [actPortStatus, State.nodes_toList, List.flatMap_map]
  rfl

theorem actReset_eq : actReset s p r = answerWithoutArguments ({ s with softPending := some p }.accept []) s r := rfl

end

/-- Settles O35: PING, PORT_STATUS and RESET share their one check (`checks_of_answerWithoutArguments`); an undefined code names no
request. -/
theorem requestsWithoutArguments : Obligations.RequestsWithoutArguments := by
  intro s p r rest served
  refine ⟨fun name => ?ping, fun name => ?portStatus, fun name => ?reset, fun undefinedName => ?undefinedRequest⟩
  case ping =>
    have own : r.named .ping = true := Request.named_of_ofCode (by rw [name]; rfl)
    obtain ⟨badLength, answer⟩ := checks_of_answerWithoutArguments (c := .ping) served rfl own actPing_eq
    exact ⟨badLength, answer⟩
  case portStatus =>
    have own : r.named .portStatus = true := Request.named_of_ofCode (by rw [name]; rfl)
    obtain ⟨badLength, answer⟩ := checks_of_answerWithoutArguments (c := .portStatus) served rfl own actPortStatus_eq
    exact ⟨badLength, answer⟩
  case reset =>
    have own : r.named .reset = true := Request.named_of_ofCode (by rw [name]; rfl)
    obtain ⟨badLength, answer⟩ := checks_of_answerWithoutArguments (c := .reset) served rfl own actReset_eq
    exact ⟨badLength, answer⟩
  case undefinedRequest =>
    have own : (RequestName.ofCode r.name == none) = true := by rw [RequestName.ofCode_eq_none undefinedName]; rfl
    exact refuses_of_act served rfl own rfl

end Sys2Proof.Machine
end

section
/-! PORT_SET (R4, R7, R146): what a change of the enable makes of one port, and what the request makes of the sixteen. -/

namespace Sys2Proof.Machine

theorem NodePort.goDown_of_up {x : NodePort} (h : x.link = .up) : x.goDown = { x.flush with link := .down, reception := none } := by
  rw [NodePort.goDown, h]

theorem NodePort.goDown_of_not_up {x : NodePort} (h : x.link ≠ .up) : x.goDown = { x with link := .down, reception := none } := by
  cases link : x.link with
  | up => exact absurd link h
  | aligning => rw [NodePort.goDown, link]
  | down => rw [NodePort.goDown, link]

theorem NodePort.setEnabled_of_held {x : NodePort} {v : Bool} (h : x.enabled = v) : x.setEnabled v = x := if_pos h

theorem NodePort.setEnabled_true {x : NodePort} (h : x.enabled ≠ true) :
    x.setEnabled true =
      if x.present then { x with enabled := true, link := .aligning, aligningRun := 0 } else { x with enabled := true } :=
  if_neg h

theorem NodePort.setEnabled_false {x : NodePort} (h : x.enabled ≠ false) :
    x.setEnabled false =
      if x.link = .up then
        { x with enabled := false, link := .down, reception := none, fifo := [], episodeOpen := false
                 counters := raise x.counters PortCounter.flushed.index x.fifo.length }
      else { x with enabled := false, link := .down, reception := none } := by
  have down : x.setEnabled false = { x with enabled := false }.goDown := if_neg h
  by_cases up : x.link = .up
  · rw [down, if_pos up, NodePort.goDown_of_up (x := { x with enabled := false }) up]
    rfl
  · rw [down, if_neg up, NodePort.goDown_of_not_up (x := { x with enabled := false }) up]

/-- The taking of a request leaves the node ports. -/
theorem State.afterTaking_node (s : State) (p : TrunkId) (rest : List Request) (q : NodeId) :
    (s.afterTaking p rest).node q = s.node q := rfl

theorem State.setPorts_node (s : State) (set : Word) (v : Bool) (q : NodeId) :
    (s.setPorts set v).node q = if set.getLsbD q.val then (s.node q).setEnabled v else s.node q := by
  simp [State.setPorts, State.node]

/-- PORT_SET touches the node ports alone. -/
theorem State.setPorts_eq (s : State) (set : Word) (v : Bool) :
    s.setPorts set v = { s with nodes := (s.setPorts set v).nodes } := rfl

theorem flagWord_toNat_le_one (b : Bool) : (flagWord b).toNat ≤ 1 := by
  cases b <;> decide

section
variable {s : State} {p : TrunkId} {r : Request} {set w : Word} {v : Bool}

theorem actPortSet_of_miscounted (h : r.args.length ≠ 2) : actPortSet s p r = s.refuse .badLength := by
  unfold actPortSet
  split
  next args => simp [args] at h
  next => rfl

theorem actPortSet_of_bad_argument (args : r.args = [set, w]) (h : setInRange 16 set = false ∨ 1 < w.toNat) :
    actPortSet s p r = s.refuse .badArgument := by
  simp only [actPortSet, args, if_pos h]

theorem actPortSet_of_good_arguments (args : r.args = [set, flagWord v]) (inRange : setInRange 16 set = true) :
    actPortSet s p r =
      (s.setPorts set v).accept ((List.finRange 16).map fun q => flagWord ((s.setPorts set v).node q).enabled) := by
  have good : ¬(setInRange 16 set = false ∨ 1 < (flagWord v).toNat) := by
    simp [inRange, flagWord_toNat_le_one]
  have value : (flagWord v == 1) = v := by cases v <;> rfl
  simp only [actPortSet, args, if_neg good, value, State.nodes_toList, List.map_map]
  rfl

end

/-- Settles O44: the state past the checks is `State.setPorts`, read port by port. -/
theorem portSetChangesTheNamedPorts : Obligations.PortSetChangesTheNamedPorts := by
  intro s p r rest served name
  have own : r.named .portSet = true := Request.named_of_ofCode (by rw [name]; rfl)
  refine ⟨fun miscounted => refuses_of_act served rfl own (actPortSet_of_miscounted miscounted), fun set w args bad => ?_,
    fun set v args nonempty within => ⟨(s.afterTaking p rest).setPorts set v, ?reply, State.setPorts_eq _ set v,
      fun q unnamed => ?unnamed, fun q named => ?named⟩⟩
  · refine refuses_of_act served rfl own (actPortSet_of_bad_argument args ?_)
    rw [setInRange_eq_false_iff]
    rcases bad with empty | beyond | value
    · exact .inl (.inl empty)
    · exact .inl (.inr beyond)
    · exact .inr value
  case reply =>
    exact answers_of_act served rfl own
      (actPortSet_of_good_arguments args (setInRange_eq_true_iff.mpr ⟨nonempty, within⟩))
  case unnamed =>
    rw [State.setPorts_node, unnamed, if_neg Bool.false_ne_true, State.afterTaking_node]
  case named =>
    intro x
    have changed : ((s.afterTaking p rest).setPorts set v).node q = x.setEnabled v := by
      rw [State.setPorts_node, if_pos named, State.afterTaking_node]
    rw [changed]
    by_cases held : x.enabled = v
    · rw [if_pos held, NodePort.setEnabled_of_held held]
    · rw [if_neg held]
      cases v with
      | true => exact NodePort.setEnabled_true held
      | false => exact NodePort.setEnabled_false held

end Sys2Proof.Machine
end

section
/-! READ_COUNTERS (R148, R169): the owners that a scope and an index name, and what the request reads and clears. -/

namespace Sys2Proof.Machine

@[simp] theorem argNode_natWord (q : NodeId) : argNode (natWord q.val) = some q := by
  revert q; decide

theorem ownerOf_eq_none_iff {scope index : Word} :
    ownerOf scope index = none ↔ 4 ≤ scope.toNat ∨ (scope.toNat = 0 ∧ 64 ≤ index.toNat) ∨ (scope.toNat = 1 ∧ 16 ≤ index.toNat) ∨
      (scope.toNat = 2 ∧ 2 ≤ index.toNat) ∨ (scope.toNat = 3 ∧ 2 ≤ index.toNat) := by
  obtain scope0 | scope1 | scope2 | scope3 | beyond :
      scope.toNat = 0 ∨ scope.toNat = 1 ∨ scope.toNat = 2 ∨ scope.toNat = 3 ∨ 4 ≤ scope.toNat := by omega
  · simp [ownerOf, scope0, argStream_eq_none_iff]
  · simp [ownerOf, scope1, argNode_eq_none_iff]
  · simp [ownerOf, scope2, argGroup_eq_none_iff]
  · simp [ownerOf, scope3, argGroup_eq_none_iff]
  · have none_of_four : ownerOf scope index = none := by
      rw [ownerOf, if_neg (by omega), if_neg (by omega), if_neg (by omega), if_neg (by omega)]
    simp only [none_of_four, beyond, true_or]

/-- The scope word of an owner (R148). -/
def Owner.scopeWord : Owner → Word
  | .stream _ => 0
  | .node _ => 1
  | .group _ => 2
  | .trunk _ => 3

/-- The index word of an owner in its scope (R148). -/
def Owner.indexWord : Owner → Word
  | .stream i => natWord i.val
  | .node q => natWord q.val
  | .group g => natWord g.val
  | .trunk q => natWord q.val

@[simp] theorem ownerOf_words (o : Owner) : ownerOf o.scopeWord o.indexWord = some o := by
  cases o with
  | stream i => simp [ownerOf, Owner.scopeWord, Owner.indexWord]
  | node q => simp [ownerOf, Owner.scopeWord, Owner.indexWord]
  | group g => simp [ownerOf, Owner.scopeWord, Owner.indexWord]
  | trunk q => exact congrArg (Option.map Owner.trunk) (argGroup_natWord q)

/-- The taking of a request leaves every counter. -/
theorem State.countersOf_afterTaking (s : State) (p : TrunkId) (rest : List Request) (o : Owner) :
    (s.afterTaking p rest).countersOf o = s.countersOf o := by
  cases o with
  | stream i => rfl
  | node q => rfl
  | group g => rfl
  | trunk q =>
    rw [State.countersOf, State.afterTaking, State.trunk_modTrunk]
    split
    next same => subst same; rfl
    next => rfl

section
variable {s : State} {p : TrunkId} {r : Request} {scope index w : Word} {o : Owner} {clear : Bool}

theorem actReadCounters_of_miscounted (h : r.args.length ≠ 3) : actReadCounters s p r = s.refuse .badLength := by
  unfold actReadCounters
  split
  next args => simp [args] at h
  next => rfl

theorem actReadCounters_of_bad_argument (args : r.args = [scope, index, w]) (h : ownerOf scope index = none ∨ 1 < w.toNat) :
    actReadCounters s p r = s.refuse .badArgument := by
  simp only [actReadCounters, args]
  cases owner : ownerOf scope index with
  | none => rfl
  | some o => exact if_pos (by simpa [owner] using h)

theorem actReadCounters_of_owner (args : r.args = [o.scopeWord, o.indexWord, flagWord clear]) :
    actReadCounters s p r =
      (if clear then s.clearCounters o else s).accept (o.scopeWord :: o.indexWord :: (s.countersOf o).map natWord) := by
  have flag : (flagWord clear).toNat = 1 ↔ clear = true := by cases clear <;> decide
  simp only [actReadCounters, args, ownerOf_words, flag, if_neg (Nat.not_lt.mpr (flagWord_toNat_le_one clear))]

end

/-- Settles O46: the four scopes are one statement about an `Owner`. -/
theorem readCountersReadsAndClears : Obligations.ReadCountersReadsAndClears := by
  intro s p r rest served name u
  have own : r.named .readCounters = true := Request.named_of_ofCode (by rw [name]; rfl)
  have reads (clear : Bool) (o : Owner) (args : r.args = [o.scopeWord, o.indexWord, flagWord clear]) :
      Answers .readCounters s p r (if clear then u.clearCounters o else u) .ok
        (o.scopeWord :: o.indexWord :: (s.countersOf o).map natWord) := by
    refine answers_of_act served rfl own ((actReadCounters_of_owner args).trans ?_)
    rw [State.countersOf_afterTaking]
    rfl
  refine ⟨fun miscounted => refuses_of_act served rfl own (actReadCounters_of_miscounted miscounted),
    fun scope index w args bad => refuses_of_act served rfl own (actReadCounters_of_bad_argument args ?_),
    fun clear => ⟨fun i => reads clear (.stream i), fun q => reads clear (.node q), fun g => reads clear (.group g),
      fun q => reads clear (.trunk q)⟩⟩
  rw [ownerOf_eq_none_iff]
  rcases bad with scopes | stream | node | group | trunk | flag
  · exact .inl (.inl scopes)
  · exact .inl (.inr (.inl stream))
  · exact .inl (.inr (.inr (.inl node)))
  · exact .inl (.inr (.inr (.inr (.inl group))))
  · exact .inl (.inr (.inr (.inr (.inr trunk))))
  · exact .inr flag

end Sys2Proof.Machine
end

section
/-! FAULT_READ and FAULT_TAKE (R149, R150, R161): their one argument, a count of 1 to 8 records, and what a take leaves. -/

namespace Sys2Proof.Machine

/-- The answer to a request whose one argument counts fault records: its two checks in order, then the answer `f` for that count. -/
def answerForCount (f : State → Nat → Answer) (s : State) (r : Request) : Answer :=
  match r.args with
  | [k] => if k.toNat = 0 ∨ 8 < k.toNat then s.refuse .badArgument else f s k.toNat
  | _ => s.refuse .badLength

/-- What FAULT_READ answers past its checks (R149). -/
def State.answerFaultRead (s : State) (k : Nat) : Answer :=
  s.accept ([natWord s.log.records.length, flagWord s.log.overflowFlag, natWord s.log.overflowCount,
    natWord (s.log.records.take k).length] ++ (s.log.records.take k).flatMap faultWords)

/-- What FAULT_TAKE answers past its checks (R150). -/
def State.answerFaultTake (s : State) (k : Nat) : Answer :=
  { s with log := s.log.remove k }.accept
    (natWord (s.log.records.take k).length :: (s.log.records.take k).flatMap faultWords ++
      [natWord (s.log.remove k).records.length, flagWord (s.log.remove k).overflowFlag])

section
variable {f : State → Nat → Answer} {c : Instr} {s : State} {p : TrunkId} {r : Request} {rest : List Request}
  {mine : Request → Bool} {act : State → TrunkId → Request → Answer} {k : Word}

theorem actFaultRead_eq : actFaultRead s p r = answerForCount State.answerFaultRead s r := rfl

theorem actFaultTake_eq : actFaultTake s p r = answerForCount State.answerFaultTake s r := rfl

theorem answerForCount_of_miscounted (h : r.args.length ≠ 1) : answerForCount f s r = s.refuse .badLength := by
  unfold answerForCount
  split
  next args => simp [args] at h
  next => rfl

theorem answerForCount_of_bad_argument (args : r.args = [k]) (h : k.toNat = 0 ∨ 9 ≤ k.toNat) :
    answerForCount f s r = s.refuse .badArgument := by
  simp only [answerForCount, args]
  exact if_pos h

theorem answerForCount_of_count (args : r.args = [k]) (nonzero : 1 ≤ k.toNat) (few : k.toNat ≤ 8) :
    answerForCount f s r = f s k.toNat := by
  simp only [answerForCount, args]
  exact if_neg (by omega)

/-- A served request that counts fault records: the refusals of its two argument checks, and the answer it gives past them. -/
theorem checks_of_answerForCount (served : s.Serves p r rest) (command : exec c s = .next (s.takeRequest mine act))
    (own : mine r = true) (form : act (s.afterTaking p rest) p r = answerForCount f (s.afterTaking p rest) r) :
    (r.args.length ≠ 1 → Refuses c s p r rest .badLength) ∧
      (∀ k, r.args = [k] → k.toNat = 0 ∨ 9 ≤ k.toNat → Refuses c s p r rest .badArgument) ∧
      ∀ k, r.args = [k] → 1 ≤ k.toNat → k.toNat ≤ 8 →
        let a := f (s.afterTaking p rest) k.toNat
        Answers c s p r a.state a.status a.results :=
  ⟨fun miscounted => refuses_of_act served command own (form.trans (answerForCount_of_miscounted miscounted)),
    fun _ args out => refuses_of_act served command own (form.trans (answerForCount_of_bad_argument args out)),
    fun _ args nonzero few => answers_of_act served command own (form.trans (answerForCount_of_count args nonzero few))⟩

end

/-- A take of at least one record clears the overflow flag, except from an empty log (R150, R161). -/
theorem FaultLog.remove_of_pos {log : FaultLog} {k : Nat} (h : 1 ≤ k) :
    log.remove k =
      { log with
        records := log.records.drop k
        overflowFlag := if log.records = [] then log.overflowFlag else false } := by
  have kept : (log.overflowFlag && (log.records.take k).isEmpty) = if log.records = [] then log.overflowFlag else false := by
    cases records : log.records with
    | nil => simp
    | cons x xs =>
      obtain ⟨n, rfl⟩ := Nat.exists_eq_add_of_le' h
      simp
  rw [FaultLog.remove, kept]

/-- Settles O47: both requests share their checks (`checks_of_answerForCount`); `FaultLog.remove_of_pos` says what a take leaves. -/
theorem faultReadAndTake : Obligations.FaultReadAndTake := by
  intro s p r rest served u
  refine ⟨fun name => ?read, fun name => ?take⟩
  case read =>
    have own : r.named .faultRead = true := Request.named_of_ofCode (by rw [name]; rfl)
    obtain ⟨badLength, badArgument, answer⟩ := checks_of_answerForCount (c := .faultRead) served rfl own actFaultRead_eq
    refine ⟨badLength, badArgument, fun k args nonzero few => ?_⟩
    rw [← List.length_take]
    exact answer k args nonzero few
  case take =>
    have own : r.named .faultTake = true := Request.named_of_ofCode (by rw [name]; rfl)
    obtain ⟨badLength, badArgument, answer⟩ := checks_of_answerForCount (c := .faultTake) served rfl own actFaultTake_eq
    refine ⟨badLength, badArgument, fun k args nonzero few => ?_⟩
    have taken := answer k args nonzero few
    rw [State.answerFaultTake, FaultLog.remove_of_pos nonzero] at taken
    exact taken

end Sys2Proof.Machine
end

section
/-! A logging handed to the fault log (R158 to R161), as one equation for each step of R159, and the pin FAULT_N (R166). -/

namespace Sys2Proof.Machine

theorem FaultRecord.accepts_iff {r : FaultRecord} {l : Logging} : r.accepts l = true ↔ r.what = l ∧ r.repeats < 255 := by
  simp [FaultRecord.accepts]

section
variable {log : FaultLog} {now : Time} {l : Logging} {older : List FaultRecord} {newest : FaultRecord}

/-- Step 1 of R159: the newest record takes the logging (R160). -/
theorem FaultLog.take_of_accepts (records : log.records = older ++ [newest]) (accepts : newest.accepts l = true) :
    log.take now l = { log with records := older ++ [{ newest with repeats := newest.repeats + 1 }] } := by
  simp [FaultLog.take, records, accepts]

/-- Past step 1 of R159: the log is empty, or its newest record does not take the logging. -/
theorem FaultLog.take_of_not_accepts
    (declines : ∀ older newest, log.records = older ++ [newest] → ¬newest.accepts l = true) :
    log.take now l = log.addOrOverflow now l := by
  rcases List.eq_nil_or_concat' log.records with empty | ⟨older, newest, records⟩
  · simp [FaultLog.take, empty]
  · simp [FaultLog.take, records, declines older newest records]

theorem FaultLog.addOrOverflow_of_room (room : log.records.length < 32) : log.addOrOverflow now l = log.add now l :=
  if_pos room

/-- Step 3 of R159: a full log counts an overflow, up to 65,535 (R161). -/
theorem FaultLog.addOrOverflow_of_full (full : 32 ≤ log.records.length) :
    log.addOrOverflow now l =
      { log with
        overflowCount := if log.overflowCount < 65535 then log.overflowCount + 1 else 65535
        overflowFlag := true } := by
  have saturates : min (log.overflowCount + 1) 65535 = if log.overflowCount < 65535 then log.overflowCount + 1 else 65535 := by
    split <;> omega
  rw [FaultLog.addOrOverflow, if_neg (by omega), saturates]

end

/-- Settles O50: the newest record decides between `FaultLog.take_of_accepts` and step 2 of R159, and the log's length between steps 2
and 3. -/
theorem loggingCoalescesAddsOrOverflows : Obligations.LoggingCoalescesAddsOrOverflows := by
  intro log now l _
  refine ⟨fun older newest records what few => ?coalesces, fun declines => ?declined⟩
  case coalesces => exact FaultLog.take_of_accepts records (FaultRecord.accepts_iff.mpr ⟨what, few⟩)
  case declined =>
    have past : log.take now l = log.addOrOverflow now l :=
      FaultLog.take_of_not_accepts fun older newest records accepts =>
        declines older newest records (FaultRecord.accepts_iff.mp accepts)
    rw [past]
    exact ⟨FaultLog.addOrOverflow_of_room, FaultLog.addOrOverflow_of_full⟩

theorem State.alertCondition_iff {s : State} :
    s.alertCondition = true ↔
      (∃ r ∈ s.log.records, s.alertMask.getLsbD r.what.kind.code = false) ∨
        (s.log.overflowFlag = true ∧ s.alertMask.getLsbD 12 = false) := by
  simp only [State.alertCondition, Bool.or_eq_true, List.any_eq_true, Bool.and_eq_true, Bool.not_eq_true']

/-- Settles O51: FAULT_N is the alert condition, and `State.alertCondition_iff` says when that holds. -/
theorem faultNFollowsTheAlertCondition : Obligations.FaultNFollowsTheAlertCondition :=
  fun _ => State.alertCondition_iff

end Sys2Proof.Machine
end


section
/-! Quiet changes: what most operations do, which is to leave every window, queue, bank, pool and binding as it is and each other piece
lawful.  One lemma for each way to replace a piece, then one for each such operation. -/

namespace Sys2Proof.Machine

-- One after another, as in the tests: many proofs checked at once would each hold a thread.
set_option Elab.async false

/-! ### Counters and the fault log -/

theorem countersLawful_iff {n : Nat} {v : Vector Nat n} : countersLawful v ↔ ∀ (i : Nat) (h : i < n), v[i] ≤ 4294967295 := by
  simp only [countersLawful, Vector.mem_toList_iff, Vector.mem_iff_getElem]
  exact ⟨fun h i hi => h _ ⟨i, hi, rfl⟩, fun h c ⟨i, hi, e⟩ => e ▸ h i hi⟩

/-- A counter's rise saturates, so that the set stays one of 32-bit values (R168). -/
theorem countersLawful_raise {n : Nat} {v : Vector Nat n} (h : countersLawful v) (i : Fin n) (k : Nat) :
    countersLawful (raise v i k) := by
  rw [countersLawful_iff] at *
  intro j hj
  rw [raise, Vector.getElem_set]
  split
  · exact Nat.min_le_right _ _
  · exact h j hj

theorem countersLawful_zero (n : Nat) : countersLawful (Vector.replicate n 0) := by
  simp [countersLawful_iff]

theorem FaultLog.add_lawful {log : FaultLog} (h : log.Lawful) (room : log.records.length < 32) (now : Time) (l : Logging) :
    (log.add now l).Lawful := by
  obtain ⟨hlen, hrep, hover, hseq⟩ := h
  refine ⟨by simp [FaultLog.add]; omega, ?_, hover, ?_⟩
  · intro r hr
    simp only [FaultLog.add, List.mem_append, List.mem_singleton] at hr
    rcases hr with hr | rfl
    · exact hrep r hr
    · exact ⟨le_refl 1, by simp⟩
  · simp only [FaultLog.add, List.map_append, hseq, List.length_append, List.length_singleton, List.range_succ, List.map_cons,
      List.map_nil]
    congr 1
    · refine List.map_congr_left fun i _ => ?_
      rw [BitVec.ofNat_add]; bv_omega
    · rw [BitVec.ofNat_add]; simp

/-- The fault log stays lawful under every logging (R158 to R161). -/
theorem FaultLog.take_lawful {log : FaultLog} (h : log.Lawful) (now : Time) (l : Logging) : (log.take now l).Lawful := by
  have fresh : (log.addOrOverflow now l).Lawful := by
    rcases Nat.lt_or_ge log.records.length 32 with room | full
    · rw [FaultLog.addOrOverflow_of_room room]
      exact FaultLog.add_lawful h room now l
    · obtain ⟨hlen, hrep, hover, hseq⟩ := h
      rw [FaultLog.addOrOverflow, if_neg (by omega)]
      exact ⟨hlen, hrep, Nat.min_le_right _ _, hseq⟩
  cases hl : log.records.getLast? with
  | none => simpa only [FaultLog.take, hl] using fresh
  | some newest =>
    obtain ⟨older, records⟩ := List.getLast?_eq_some_iff.mp hl
    by_cases accepts : newest.accepts l = true
    · obtain ⟨hlen, hrep, hover, hseq⟩ := h
      rw [FaultLog.take_of_accepts records accepts]
      rw [records] at hlen hrep hseq
      refine ⟨by simpa using hlen, ?_, hover, by simpa using hseq⟩
      intro r hr
      simp only [List.mem_append, List.mem_singleton] at hr
      rcases hr with hr | rfl
      · exact hrep r (by simp [hr])
      · have := hrep newest (by simp)
        have := (FaultRecord.accepts_iff.mp accepts).2
        simp only; omega
    · simp only [FaultLog.take, hl, accepts]
      exact fresh

/-- A take of the oldest records leaves the sequence numbers of the others consecutive (R150, R158). -/
theorem FaultLog.remove_lawful {log : FaultLog} (h : log.Lawful) (k : Nat) : (log.remove k).Lawful := by
  obtain ⟨hlen, hrep, hover, hseq⟩ := h
  refine ⟨by simp [FaultLog.remove]; omega, fun r hr => hrep r (List.mem_of_mem_drop hr), hover, ?_⟩
  simp only [FaultLog.remove, List.map_drop, hseq, List.length_drop]
  refine List.ext_getElem (by simp) fun i h1 h2 => ?_
  simp only [List.getElem_drop, List.getElem_map, List.getElem_range]
  have hk : k ≤ log.records.length := by simp at h1; omega
  have : log.records.length - k + k = log.records.length := by omega
  rw [BitVec.ofNat_add, ← this, BitVec.ofNat_add]
  simp only [Nat.add_sub_cancel]
  ring

/-! ### Quiet changes -/

/-- A group keeps all but its late run, its handed attempts and its counters, and these stay in their ranges. -/
structure Group.Quiet (x y : Group) : Prop where
  same : y = { x with lateRun := y.lateRun, lateLogged := y.lateLogged, attempts := y.attempts, counters := y.counters }
  lateRun : x.lateRun ≤ 64 → y.lateRun ≤ 64
  counters : countersLawful x.counters → countersLawful y.counters

/-- No window, queue, bank, pool or binding changes, the intake holds what it held, and each other piece stays lawful. -/
structure State.Quiet (s t : State) : Prop where
  nodes : ∀ p, (s.node p).Lawful → (t.node p).Lawful
  trunks : ∀ p, (s.trunk p).Lawful → (t.trunk p).Lawful
  bound : ∀ i, (t.stream i).group = (s.stream i).group
  streams : ∀ i, (s.stream i).Lawful → (t.stream i).Lawful
  groups : ∀ g, (s.group g).Quiet (t.group g)
  log : s.log.Lawful → t.log.Lawful
  softCount : t.softCount = s.softCount
  intake : t.intake = s.intake
  freeRows : t.freeRows = s.freeRows
  freeCells : t.freeCells = s.freeCells

theorem Group.Quiet.refl (x : Group) : x.Quiet x := ⟨rfl, id, id⟩

theorem Group.Quiet.trans {x y z : Group} (h : x.Quiet y) (k : y.Quiet z) : x.Quiet z :=
  ⟨by rw [k.same, h.same], k.lateRun ∘ h.lateRun, k.counters ∘ h.counters⟩

section
variable {x y : Group} (h : x.Quiet y)
include h

theorem Group.Quiet.state : y.state = x.state := by rw [h.same]
theorem Group.Quiet.depth : y.depth = x.depth := by rw [h.same]
theorem Group.Quiet.empty : y.empty = x.empty := by rw [h.same]
theorem Group.Quiet.cursor : y.cursor = x.cursor := by rw [h.same]
theorem Group.Quiet.rows : y.rows = x.rows := by rw [h.same]
theorem Group.Quiet.templates : y.templates = x.templates := by rw [h.same]
theorem Group.Quiet.queue : y.queue = x.queue := by rw [h.same]
theorem Group.Quiet.paramsLawful : y.paramsLawful ↔ x.paramsLawful := by rw [h.same]; rfl

end

theorem State.Quiet.refl (s : State) : s.Quiet s :=
  ⟨fun _ => id, fun _ => id, fun _ => rfl, fun _ => id, fun _ => Group.Quiet.refl _, id, rfl, rfl, rfl, rfl⟩

theorem State.Quiet.trans {s t u : State} (h : s.Quiet t) (k : t.Quiet u) : s.Quiet u where
  nodes p := k.nodes p ∘ h.nodes p
  trunks p := k.trunks p ∘ h.trunks p
  bound i := (k.bound i).trans (h.bound i)
  streams i := k.streams i ∘ h.streams i
  groups g := (h.groups g).trans (k.groups g)
  log := k.log ∘ h.log
  softCount := k.softCount.trans h.softCount
  intake := k.intake.trans h.intake
  freeRows := k.freeRows.trans h.freeRows
  freeCells := k.freeCells.trans h.freeCells

/-! ### One piece replaced -/

/-- A change of the clock, the draws, the pins, the cells' words, the settings and the rotations alone is quiet. -/
theorem State.Quiet.of_pieces {s t : State} (nodes : t.nodes = s.nodes) (streams : t.streams = s.streams)
    (groups : t.groups = s.groups) (trunks : t.trunks = s.trunks) (log : t.log = s.log) (softCount : t.softCount = s.softCount)
    (intake : t.intake = s.intake) (freeRows : t.freeRows = s.freeRows) (freeCells : t.freeCells = s.freeCells) : s.Quiet t where
  nodes p := by simp [State.node, nodes]
  trunks p := by simp [State.trunk, trunks]
  bound i := by simp [State.stream, streams]
  streams i := by simp [State.stream, streams]
  groups g := by simpa [State.group, groups] using Group.Quiet.refl _
  log := by simp [log]
  softCount := softCount
  intake := intake
  freeRows := freeRows
  freeCells := freeCells

section
variable (s : State)

theorem State.quiet_modNode {p : NodeId} {f : NodePort → NodePort} (lawful : (s.node p).Lawful → (f (s.node p)).Lawful) :
    s.Quiet (s.modNode p f) where
  __ := State.Quiet.refl s
  nodes q h := by
    rw [State.node_modNode]; split
    · next e => subst e; exact lawful h
    · exact h

theorem State.quiet_modTrunk {p : TrunkId} {f : Trunk → Trunk} (lawful : (s.trunk p).Lawful → (f (s.trunk p)).Lawful) :
    s.Quiet (s.modTrunk p f) where
  __ := State.Quiet.refl s
  trunks q h := by
    rw [State.trunk_modTrunk]; split
    · next e => subst e; exact lawful h
    · exact h

theorem State.quiet_modStream {i : StreamId} {f : Stream → Stream} (bound : (f (s.stream i)).group = (s.stream i).group)
    (lawful : (s.stream i).Lawful → (f (s.stream i)).Lawful) : s.Quiet (s.modStream i f) where
  __ := State.Quiet.refl s
  bound j := by
    rw [State.stream_modStream]; split
    · next e => subst e; exact bound
    · rfl
  streams j h := by
    rw [State.stream_modStream]; split
    · next e => subst e; exact lawful h
    · exact h

theorem State.quiet_mapStreams {f : StreamId → Stream → Stream} (bound : ∀ i, (f i (s.stream i)).group = (s.stream i).group)
    (lawful : ∀ i, (s.stream i).Lawful → (f i (s.stream i)).Lawful) : s.Quiet (s.mapStreams f) where
  __ := State.Quiet.refl s
  bound j := by rw [State.stream_mapStreams]; exact bound j
  streams j h := by rw [State.stream_mapStreams]; exact lawful j h

theorem State.quiet_modGroup {g : GroupId} {f : Group → Group} (quiet : (s.group g).Quiet (f (s.group g))) :
    s.Quiet (s.modGroup g f) where
  __ := State.Quiet.refl s
  groups j := by
    rw [State.group_modGroup]; split
    · next e => subst e; exact quiet
    · exact Group.Quiet.refl _

theorem State.quiet_logFault (l : Logging) : s.Quiet (s.logFault l) where
  __ := State.Quiet.refl s
  log h := FaultLog.take_lawful h _ _

theorem State.quiet_countNode (p : NodeId) (c : PortCounter) (k : Nat) : s.Quiet (s.countNode p c k) :=
  s.quiet_modNode fun ⟨h1, h2, h3, h4, h5, h6, h7, h8, h9⟩ => ⟨h1, h2, h3, h4, h5, h6, h7, h8, countersLawful_raise h9 _ _⟩

theorem State.quiet_countTrunk (p : TrunkId) (c : TrunkCounter) (k : Nat) : s.Quiet (s.countTrunk p c k) :=
  s.quiet_modTrunk fun ⟨h1, h2, h3, h4, h5, h6, h7, h8, h9, h10⟩ =>
    ⟨h1, h2, h3, h4, h5, h6, h7, h8, h9, countersLawful_raise h10 _ _⟩

theorem Stream.Lawful.with_counters {x : Stream} (h : x.Lawful) {v : Vector Nat 12} (hv : countersLawful v) :
    ({ x with counters := v } : Stream).Lawful := by
  obtain ⟨h1, h2, h3, h4, h5, h6, h7, h8, h9, h10, h11, -⟩ := h
  exact ⟨h1, h2, h3, h4, h5, h6, h7, h8, h9, h10, h11, hv⟩

theorem Stream.Lawful.counters {x : Stream} (h : x.Lawful) : countersLawful x.counters := by
  obtain ⟨-, -, -, -, -, -, -, -, -, -, -, h⟩ := h; exact h

theorem State.quiet_countStream (i : StreamId) (c : StreamCounter) : s.Quiet (s.countStream i c) :=
  s.quiet_modStream rfl fun h => h.with_counters (countersLawful_raise h.counters _ _)

theorem State.quiet_countGroup (g : GroupId) (c : GroupCounter) (k : Nat) : s.Quiet (s.countGroup g c k) :=
  s.quiet_modGroup ⟨rfl, id, fun h => countersLawful_raise h _ _⟩

theorem State.quiet_handAttempt (g : GroupId) : s.Quiet (s.handAttempt g) :=
  s.quiet_modGroup ⟨rfl, id, id⟩

end

end Sys2Proof.Machine
end


section
/-! Node ports (R3 to R14): the commands of a part that no reset pin holds, as one change of the port each. -/

namespace Sys2Proof.Machine

-- One after another, as in the tests: many proofs checked at once would each hold a thread.
set_option Elab.async false

theorem State.held_of_none {s : State} (h : s.hold = .none) : s.held = false := by simp [State.held, h]

theorem State.unlessHeld_of_none {s : State} (h : s.hold = .none) (f : State → State) : s.unlessHeld f = f s := by
  simp [State.unlessHeld, State.held_of_none h]

/-! ### Alignment (R5) -/

theorem NodePort.alignStep_eq (x : NodePort) :
    x.alignStep = if 3 ≤ x.aligningRun then { x with aligningRun := 4, link := .up, failureRun := 0 }
      else { x with aligningRun := x.aligningRun + 1 } := by
  simp [NodePort.alignStep]

theorem NodePort.alignUnit_of_not_good {x : NodePort} {v : SampleVerdict} (h : ∀ m, v ≠ .good m) : x.alignUnit v = x.alignBreak := by
  cases v with
  | good m => exact absurd rfl (h m)
  | badCrc | badLength => rfl

theorem execNodeUnitEnd_of_aligning {s : State} {p : NodeId} (free : s.hold = .none) (aligning : (s.node p).link = .aligning)
    (symbols : List LineSymbol) :
    exec (.nodeUnitEnd p symbols) s = .next (s.modNode p fun x =>
      ({ x with reception := none } : NodePort).alignUnit (judgeSample ((s.node p).reception.getD [] ++ symbols))) := by
  simp only [exec, execNodeUnitEnd, State.unlessHeld_of_none free, aligning, State.closeReception, State.modNode_modNode]

theorem execNodeUnitEnd_of_up {s : State} {p : NodeId} (free : s.hold = .none) (up : (s.node p).link = .up)
    (symbols : List LineSymbol) :
    exec (.nodeUnitEnd p symbols) s =
      .next ((s.closeReception p).nodeReceive p (judgeSample ((s.node p).reception.getD [] ++ symbols))) := by
  simp only [exec, execNodeUnitEnd, State.unlessHeld_of_none free, up]

theorem execNodeStraySymbol_of_aligning {s : State} {p : NodeId} (free : s.hold = .none) (aligning : (s.node p).link = .aligning)
    (symbols : List LineSymbol) : exec (.nodeStraySymbol p symbols) s = .next (s.modNode p NodePort.alignBreak) := by
  simp only [exec, execNodeStraySymbol, State.unlessHeld_of_none free, aligning]

theorem execNodeStraySymbol_of_up {s : State} {p : NodeId} (free : s.hold = .none) (up : (s.node p).link = .up)
    (symbols : List LineSymbol) : exec (.nodeStraySymbol p symbols) s = .next (s.nodeCheckError p) := by
  simp only [exec, execNodeStraySymbol, State.unlessHeld_of_none free, up]

theorem execNodeIdleSequence_of_aligning {s : State} {p : NodeId} (free : s.hold = .none) (aligning : (s.node p).link = .aligning) :
    exec (.nodeIdleSequence p) s = .next (s.modNode p NodePort.alignStep) := by
  simp only [exec, execNodeIdleSequence, State.unlessHeld_of_none free]
  rw [s.modNode_congr p NodePort.idleSequence NodePort.alignStep (by rw [NodePort.idleSequence, aligning])]

theorem NodePort.signalLoss_eq (x : NodePort) :
    x.signalLoss =
      if x.link = .up then
        { x with line := false, present := false, link := .down, reception := none, fifo := [], episodeOpen := false,
                 counters := raise x.counters PortCounter.flushed.index x.fifo.length }
      else { x with line := false, present := false, link := .down, reception := none } := by
  by_cases up : x.link = .up
  · rw [if_pos up, NodePort.signalLoss, NodePort.goDown_of_up (by exact up)]; rfl
  · rw [if_neg up, NodePort.signalLoss, NodePort.goDown_of_not_up (by exact up)]

/-- Settles O7: each command is one change of the port, by its link state and the verdict on the unit. -/
theorem nodeSignalAndAligning : Obligations.NodeSignalAndAligning := by
  refine ⟨⟨fun s p free => ?_, fun s p free => ?_⟩, fun s p free aligning => ⟨?_, fun symbols m good => ?_, fun symbols bad => ?_,
    fun symbols => ?_⟩⟩
  · simp only [exec, execNodeSignalPresent, State.held_of_none free]
    rfl
  · simp only [exec, execNodeSignalLoss, State.held_of_none free, Bool.false_eq_true, if_false]
    exact congrArg (fun f => Host.Outcome.next (s.modNode p f)) (funext NodePort.signalLoss_eq)
  · rw [execNodeIdleSequence_of_aligning free aligning]
    exact congrArg (fun f => Host.Outcome.next (s.modNode p f)) (funext NodePort.alignStep_eq)
  · rw [execNodeUnitEnd_of_aligning free aligning, good]
    simp only [NodePort.alignUnit, NodePort.alignStep_eq]
  · rw [execNodeUnitEnd_of_aligning free aligning]
    simp only [NodePort.alignUnit_of_not_good bad, NodePort.alignBreak]
  · exact execNodeStraySymbol_of_aligning free aligning symbols

/-! ### Received units in UP (R6, R9 to R13) -/

theorem State.offerMessage_of_room {s : State} {p : NodeId} (room : (s.node p).fifo.length < 4) (m : SampleMsg) :
    s.offerMessage p m = s.modNode p fun x => { x with fifo := x.fifo ++ [m] } := by
  rw [State.offerMessage, if_pos room]

theorem State.offerMessage_of_full {s : State} {p : NodeId} (full : ¬(s.node p).fifo.length < 4) (m : SampleMsg) :
    s.offerMessage p m = s.refuseMessage p := by
  rw [State.offerMessage, if_neg full]

/-- Settles O8: the FIFO's room decides between the placing and the refusal, the open episode on the logging. -/
theorem goodMessageIsPlacedOrRefused : Obligations.GoodMessageIsPlacedOrRefused := by
  intro s p symbols m free up good
  rw [execNodeUnitEnd_of_up free up, good]
  simp only [State.nodeReceive, State.nodeGood, State.closeReception, State.modNode_modNode]
  congr 1
  by_cases room : (s.node p).fifo.length < 4
  · rw [if_pos room, State.offerMessage_of_room (by simpa using room), State.modNode_modNode]
  · rw [if_neg room, State.offerMessage_of_full (by simpa using room)]
    simp only [State.refuseMessage, State.modNode_modNode, State.node_modNode_self]

/-- A unit that fails its CRC check in UP: below 8 the failure run rises, and at 8 alignment is lost (R6, R7, R9). -/
theorem State.nodeCheckError_eq (s : State) (p : NodeId) :
    s.nodeCheckError p =
      if (s.node p).failureRun + 1 < 8 then
        s.modNode p fun x =>
          { x with counters := raise x.counters PortCounter.checkErrors.index 1, failureRun := x.failureRun + 1 }
      else
        (s.modNode p fun x =>
          { x with
            counters := raise (raise x.counters PortCounter.checkErrors.index 1) PortCounter.flushed.index x.fifo.length
            failureRun := x.failureRun + 1, fifo := [], episodeOpen := false, link := .aligning, aligningRun := 0 }).logFault
          (portLogging .portAlignLost (.node p)) := by
  simp only [State.nodeCheckError, State.node_modNode_self, State.modNode_modNode]
  by_cases few : (s.node p).failureRun + 1 < 8
  · rw [if_pos few, if_neg (by omega)]
  · rw [if_neg few, if_pos (by omega)]
    rfl

/-- Settles O9: stray symbols in UP are one failing unit, whose effect is `State.nodeCheckError_eq`. -/
theorem failingAndMalformedUnits : Obligations.FailingAndMalformedUnits := by
  refine ⟨fun s p symbols free up => ⟨?_, fun bad => ?_⟩, fun s p symbols free up bad => ?_⟩
  · rw [execNodeStraySymbol_of_up free up]
    exact congrArg _ (s.nodeCheckError_eq p)
  · rw [execNodeUnitEnd_of_up free up, bad]
    exact congrArg _ ((s.closeReception p).nodeCheckError_eq p)
  · rw [execNodeUnitEnd_of_up free up, bad]
    simp only [State.nodeReceive, State.nodeMalformed, State.closeReception, State.modNode_modNode]

end Sys2Proof.Machine
end


section
/-! The laws of one node port (R2 to R14), kept by each change that a command makes of it. -/

namespace Sys2Proof.Machine

-- One after another, as in the tests: many proofs checked at once would each hold a thread.
set_option Elab.async false

section
variable {x : NodePort} (h : x.Lawful)
include h

theorem NodePort.Lawful.counters : countersLawful x.counters := by
  obtain ⟨-, -, -, -, -, -, -, -, h⟩ := h; exact h

theorem NodePort.Lawful.with_line (level : Bool) : ({ x with line := level } : NodePort).Lawful := h

theorem NodePort.Lawful.with_reception (r : Option (List LineSymbol)) : ({ x with reception := r } : NodePort).Lawful := h

theorem NodePort.Lawful.with_counters {v : Vector Nat 7} (hv : countersLawful v) : ({ x with counters := v } : NodePort).Lawful := by
  obtain ⟨h1, h2, h3, h4, h5, h6, h7, h8, -⟩ := h
  exact ⟨h1, h2, h3, h4, h5, h6, h7, h8, hv⟩

theorem NodePort.Lawful.signalPresent : x.signalPresent.Lawful := by
  obtain ⟨h1, h2, h3, h4, h5, h6, h7, h8, h9⟩ := h
  by_cases c : x.enabled = true ∧ x.link = .down
  · rw [NodePort.signalPresent, if_pos c]
    exact ⟨h1, fun _ => h2 (by simp [c.2]), h3, fun _ => ⟨c.1, rfl⟩, Nat.zero_le _, fun _ => Nat.zero_lt_succ _, h7,
      nofun, h9⟩
  · rw [NodePort.signalPresent, if_neg c]
    exact ⟨h1, h2, h3, fun up => ⟨(h4 up).1, rfl⟩, h5, h6, h7, h8, h9⟩

/-- Whatever its enable and presence, a port that goes DOWN is lawful, its FIFO flushed if it was UP (R3, R4, R7). -/
theorem NodePort.Lawful.goDown (present enabled level : Bool) :
    ({ x with present := present, enabled := enabled, line := level } : NodePort).goDown.Lawful := by
  obtain ⟨h1, h2, h3, -, h5, -, h7, -, h9⟩ := h
  by_cases up : x.link = .up
  · rw [NodePort.goDown_of_up (by exact up)]
    exact ⟨Nat.zero_le _, fun _ => rfl, fun _ => rfl, fun n => absurd rfl n, h5, by simp, h7, by simp,
      countersLawful_raise h9 _ _⟩
  · rw [NodePort.goDown_of_not_up (by exact up)]
    exact ⟨h1, fun _ => h2 up, h3, fun n => absurd rfl n, h5, by simp, h7, by simp, h9⟩

theorem NodePort.Lawful.signalLoss : x.signalLoss.Lawful := h.goDown false x.enabled false

theorem NodePort.Lawful.setEnabled (v : Bool) : (x.setEnabled v).Lawful := by
  unfold NodePort.setEnabled
  split
  · exact h
  · next change =>
    cases v with
    | false => exact h.goDown x.present false x.line
    | true =>
      obtain ⟨h1, h2, h3, h4, h5, h6, h7, h8, h9⟩ := h
      have down : x.link = .down := by_contra fun other => change (h4 other).1
      simp only [if_true]
      split
      · next present =>
        exact ⟨h1, fun _ => h2 (by simp [down]), h3, fun _ => ⟨rfl, present⟩, Nat.zero_le _, fun _ => Nat.zero_lt_succ _, h7,
          nofun, h9⟩
      · exact ⟨h1, h2, h3, fun n => absurd down n, h5, h6, h7, h8, h9⟩

theorem NodePort.Lawful.alignStep (aligning : x.link = .aligning) : x.alignStep.Lawful := by
  obtain ⟨h1, h2, h3, h4, h5, h6, h7, h8, h9⟩ := h
  have outside : x.link ≠ .up := by simp [aligning]
  rw [NodePort.alignStep_eq]
  split
  · exact ⟨h1, fun n => absurd rfl n, h3, fun _ => h4 (by simp [aligning]), le_refl 4, by simp, Nat.zero_le _,
      fun _ => Nat.zero_lt_succ _, h9⟩
  · exact ⟨h1, h2, h3, h4, by simp only; omega, fun _ => by simp only; omega, h7, h8, h9⟩

theorem NodePort.Lawful.alignBreak : x.alignBreak.Lawful := by
  obtain ⟨h1, h2, h3, h4, -, -, h7, h8, h9⟩ := h
  exact ⟨h1, h2, h3, h4, Nat.zero_le _, fun _ => Nat.zero_lt_succ _, h7, h8, h9⟩

theorem NodePort.Lawful.alignUnit (aligning : x.link = .aligning) (v : SampleVerdict) : (x.alignUnit v).Lawful := by
  cases v with
  | good m => exact h.alignStep aligning
  | badCrc | badLength => exact h.alignBreak

theorem NodePort.Lawful.takeHead : x.takeHead.Lawful := by
  obtain ⟨h1, h2, h3, h4, h5, h6, h7, h8, h9⟩ := h
  refine ⟨by simp [NodePort.takeHead]; omega, fun n => by simp [NodePort.takeHead, h2 n], fun empty => ?_, h4, h5, h6, h7, h8, h9⟩
  simp only [NodePort.takeHead] at empty ⊢
  simp [empty]

end

section
variable (s : State) (p : NodeId)

theorem State.quiet_closeReception : s.Quiet (s.closeReception p) := s.quiet_modNode id

theorem State.quiet_nodeCheckError (up : (s.node p).link = .up) : s.Quiet (s.nodeCheckError p) := by
  rw [State.nodeCheckError_eq]
  split
  · next few =>
    refine s.quiet_modNode fun ⟨h1, h2, h3, h4, h5, h6, _, _, h9⟩ =>
      ⟨h1, h2, h3, h4, h5, h6, ?_, fun _ => few, countersLawful_raise h9 _ _⟩
    simp only; omega
  · refine (s.quiet_modNode fun ⟨_, _, _, h4, _, _, _, h8, h9⟩ => ?_).trans (State.quiet_logFault _ _)
    refine ⟨Nat.zero_le _, fun _ => rfl, fun _ => rfl, fun _ => h4 (by simp [up]), Nat.zero_le _, fun _ => Nat.zero_lt_succ _, ?_,
      by simp, countersLawful_raise (countersLawful_raise h9 _ _) _ _⟩
    have := h8 up
    simp only; omega

/-- The good CRC of a unit sets the failure run to 0 (R6). -/
theorem NodePort.Lawful.counted {x : NodePort} (h : x.Lawful) (c : PortCounter) :
    ({ x with counters := raise x.counters c.index 1, failureRun := 0 } : NodePort).Lawful := by
  obtain ⟨h1, h2, h3, h4, h5, h6, -, -, h9⟩ := h
  exact ⟨h1, h2, h3, h4, h5, h6, Nat.zero_le _, fun _ => Nat.zero_lt_succ _, countersLawful_raise h9 _ _⟩

theorem State.quiet_offerMessage (up : (s.node p).link = .up) (m : SampleMsg) : s.Quiet (s.offerMessage p m) := by
  by_cases room : (s.node p).fifo.length < 4
  · rw [State.offerMessage_of_room room]
    refine s.quiet_modNode fun ⟨_, _, _, h4, h5, h6, h7, h8, h9⟩ =>
      ⟨by simp; omega, fun n => absurd up n, fun empty => by simp at empty, h4, h5, h6, h7, h8, h9⟩
  · rw [State.offerMessage_of_full room, State.refuseMessage]
    have refused : s.Quiet (s.modNode p fun x =>
        { x with counters := raise x.counters PortCounter.fifoOverflow.index 1, episodeOpen := true }) :=
      s.quiet_modNode fun ⟨h1, h2, _, h4, h5, h6, h7, h8, h9⟩ =>
        ⟨h1, h2, fun empty => absurd (show (s.node p).fifo = [] from empty) fun e => by simp [e] at room, h4, h5, h6, h7, h8, countersLawful_raise h9 _ _⟩
    split
    · exact refused
    · exact refused.trans (State.quiet_logFault _ _)

theorem State.quiet_nodeReceive (up : (s.node p).link = .up) (v : SampleVerdict) : s.Quiet (s.nodeReceive p v) := by
  cases v with
  | badCrc => exact s.quiet_nodeCheckError p up
  | badLength => rw [State.nodeReceive, State.nodeMalformed]; exact s.quiet_modNode fun h => h.counted .malformed
  | good m => rw [State.nodeReceive, State.nodeGood]; exact (s.quiet_modNode fun h => h.counted .messagesGood).trans (State.quiet_offerMessage _ p (by simpa using up) m)

end

end Sys2Proof.Machine
end


section
/-! The laws of one trunk port (R117 to R138), kept by each change that a command makes of it, and the quiet operations of the
transmitter and of the credit waits. -/

namespace Sys2Proof.Machine

-- One after another, as in the tests: many proofs checked at once would each hold a thread.
set_option Elab.async false

/-! ### One port -/

/-- Of a port in UP the laws are the ranges of its balance, debt, queues, runs and counters. -/
theorem Trunk.lawful_of_up {x : Trunk} (up : x.link = .up) (credit : x.credit ≤ 255) (debt : x.markDebt ≤ 8)
    (requests : x.requests.length ≤ 4) (replies : x.replies.length ≤ 4) (run : x.aligningRun ≤ 4) (failures : x.failureRun < 8)
    (counters : countersLawful x.counters) : x.Lawful :=
  ⟨credit, debt, requests, replies, run, by simp [up], by omega, fun _ => failures, fun n => absurd up n, counters⟩

/-- A port that leaves UP keeps its runs and counters and loses everything else (R119, R121). -/
theorem Trunk.leaveUp_lawful {x : Trunk} (run : x.aligningRun ≤ 4) (failures : x.failureRun ≤ 8) (counters : countersLawful x.counters)
    {next : Link} (outside : next ≠ .up) (k : Nat) : (x.leaveUp k next).Lawful := by
  rw [Trunk.leaveUp_eq]
  refine ⟨Nat.zero_le _, Nat.zero_le _, Nat.zero_le _, Nat.zero_le _, ?_, fun aligning => ?_, failures, fun up => absurd up outside,
    fun _ => ⟨rfl, rfl, rfl, rfl, rfl, rfl, rfl⟩, counters⟩
  · simp only; split <;> omega
  · simp only at aligning ⊢
    rw [if_pos aligning]; decide

section
variable {x : Trunk} (h : x.Lawful)
include h

theorem Trunk.Lawful.run_le : x.aligningRun ≤ 4 := by
  obtain ⟨-, -, -, -, h, -⟩ := h; exact h

theorem Trunk.Lawful.failures_le : x.failureRun ≤ 8 := by
  obtain ⟨-, -, -, -, -, -, h, -⟩ := h; exact h

theorem Trunk.Lawful.counters : countersLawful x.counters := by
  obtain ⟨-, -, -, -, -, -, -, -, -, h⟩ := h; exact h

/-- A port with a timer running, a request or a reply waiting or a unit in transmission is UP. -/
theorem Trunk.Lawful.up_of_busy (busy : x.markTimer ≠ none ∨ x.starveTimer ≠ none ∨ x.requests ≠ [] ∨ x.tx ≠ none) : x.link = .up := by
  obtain ⟨-, -, -, -, -, -, -, -, outside, -⟩ := h
  by_contra down
  obtain ⟨-, -, requests, -, mark, starve, tx⟩ := outside down
  simp [requests, mark, starve, tx] at busy

theorem Trunk.Lawful.with_line (level : Bool) : ({ x with line := level } : Trunk).Lawful := h

theorem Trunk.Lawful.with_reception (r : Option (List LineSymbol)) : ({ x with reception := r } : Trunk).Lawful := h

theorem Trunk.Lawful.with_counters {v : Vector Nat 6} (hv : countersLawful v) : ({ x with counters := v } : Trunk).Lawful := by
  obtain ⟨h1, h2, h3, h4, h5, h6, h7, h8, h9, -⟩ := h
  exact ⟨h1, h2, h3, h4, h5, h6, h7, h8, h9, hv⟩

theorem Trunk.Lawful.with_requests {requests : List Request} (few : requests.length ≤ 4) (none : x.requests = [] → requests = []) :
    ({ x with requests := requests } : Trunk).Lawful := by
  obtain ⟨h1, h2, h3, h4, h5, h6, h7, h8, h9, h10⟩ := h
  refine ⟨h1, h2, few, h4, h5, h6, h7, h8, fun outside => ?_, h10⟩
  obtain ⟨o1, o2, o3, o4, o5, o6, o7⟩ := h9 outside
  exact ⟨o1, o2, none o3, o4, o5, o6, o7⟩

theorem Trunk.Lawful.with_replies {replies : List Reply} (few : replies.length ≤ 4) (none : x.replies = [] → x.link ≠ .up → replies = []) :
    ({ x with replies := replies } : Trunk).Lawful := by
  obtain ⟨h1, h2, h3, h4, h5, h6, h7, h8, h9, h10⟩ := h
  refine ⟨h1, h2, h3, few, h5, h6, h7, h8, fun outside => ?_, h10⟩
  obtain ⟨o1, o2, o3, o4, o5, o6, o7⟩ := h9 outside
  exact ⟨o1, o2, o3, none o4 outside, o5, o6, o7⟩

/-- The timers may change as long as they stay stopped outside UP (R121, R125, R126). -/
theorem Trunk.Lawful.with_timers {mark starve : Option Time} (logged : Bool) (interval limit : Nat)
    (hm : x.link ≠ .up → mark = none) (hs : x.link ≠ .up → starve = none) :
    ({ x with markTimer := mark, starveTimer := starve, starveLogged := logged, markInterval := interval, starveLimit := limit } :
      Trunk).Lawful := by
  obtain ⟨h1, h2, h3, h4, h5, h6, h7, h8, h9, h10⟩ := h
  refine ⟨h1, h2, h3, h4, h5, h6, h7, h8, fun outside => ?_, h10⟩
  obtain ⟨o1, o2, o3, o4, -, -, o7⟩ := h9 outside
  exact ⟨o1, o2, o3, o4, hm outside, hs outside, o7⟩

theorem Trunk.Lawful.starve_none (outside : x.link ≠ .up) : x.starveTimer = none := by
  by_contra running
  exact outside (h.up_of_busy (Or.inr (Or.inl running)))

theorem Trunk.Lawful.mark_none (outside : x.link ≠ .up) : x.markTimer = none := by
  by_contra running
  exact outside (h.up_of_busy (Or.inl running))

theorem Trunk.Lawful.endUnit : x.endUnit.Lawful := by
  unfold Trunk.endUnit
  split
  · exact h
  · obtain ⟨h1, h2, h3, h4, h5, h6, h7, h8, h9, h10⟩ := h
    refine ⟨h1, h2, h3, h4, h5, h6, h7, h8, fun outside => ?_, h10⟩
    obtain ⟨o1, o2, o3, o4, o5, o6, -⟩ := h9 outside
    exact ⟨o1, o2, o3, o4, o5, o6, rfl⟩

theorem Trunk.Lawful.alignBreak : x.alignBreak.Lawful := by
  obtain ⟨h1, h2, h3, h4, -, -, h7, h8, h9, h10⟩ := h
  exact ⟨h1, h2, h3, h4, Nat.zero_le _, fun _ => Nat.zero_lt_succ _, h7, h8, h9, h10⟩

/-- A port not in UP enters ALIGNING with its run at 0 (R118). -/
theorem Trunk.Lawful.startAligning (outside : x.link ≠ .up) (level : Bool) :
    ({ x with line := level, link := .aligning, aligningRun := 0 } : Trunk).Lawful := by
  obtain ⟨h1, h2, h3, h4, -, -, h7, -, h9, h10⟩ := h
  exact ⟨h1, h2, h3, h4, Nat.zero_le _, fun _ => Nat.zero_lt_succ _, h7, by simp, fun _ => h9 outside, h10⟩

/-- A port not in UP goes DOWN (R118). -/
theorem Trunk.Lawful.goDown (outside : x.link ≠ .up) (level : Bool) :
    ({ x with line := level, reception := none, link := .down } : Trunk).Lawful := by
  obtain ⟨h1, h2, h3, h4, h5, -, h7, -, h9, h10⟩ := h
  exact ⟨h1, h2, h3, h4, h5, by simp, h7, by simp, fun _ => h9 outside, h10⟩

theorem Trunk.Lawful.takeCredit (up : x.link = .up) (mode : CreditMode) {count : Nat} (byte : count ≤ 255) :
    (({ x with failureRun := 0 } : Trunk).takeCredit mode count).Lawful := by
  obtain ⟨h1, h2, h3, h4, h5, -, -, -, -, h10⟩ := h
  unfold Trunk.takeCredit
  cases mode with
  | add =>
    dsimp only
    split <;> exact Trunk.lawful_of_up up (Nat.min_le_right _ _) h2 h3 h4 h5 (Nat.zero_lt_succ _) (countersLawful_raise h10 _ _)
  | set =>
    dsimp only
    split <;> exact Trunk.lawful_of_up up byte h2 h3 h4 h5 (Nat.zero_lt_succ _) h10

theorem Trunk.Lawful.queueRequest (up : x.link = .up) (r : Request) : (({ x with failureRun := 0 } : Trunk).queueRequest r).Lawful := by
  obtain ⟨h1, h2, h3, h4, h5, -, -, -, -, h10⟩ := h
  unfold Trunk.queueRequest
  split
  · next room =>
    exact Trunk.lawful_of_up up h1 h2 (by simp at room ⊢; omega) h4 h5 (Nat.zero_lt_succ _) h10
  · exact Trunk.lawful_of_up up h1 h2 h3 h4 h5 (Nat.zero_lt_succ _) (countersLawful_raise h10 _ _)

/-- The start of a unit: a debt and a balance that do not rise (R123, R127, R131). -/
theorem Trunk.Lawful.startUnit (up : x.link = .up) {debt credit : Nat} (hd : debt ≤ x.markDebt) (hc : credit ≤ x.credit)
    (sequence : BitVec 16) (tx : Option TxUnit) :
    ({ x with markSequence := sequence, markDebt := debt, credit := credit, tx := tx } : Trunk).Lawful := by
  obtain ⟨h1, h2, h3, h4, h5, -, -, h8, -, h10⟩ := h
  exact Trunk.lawful_of_up up (by simp only; omega) (by simp only; omega) h3 h4 h5 (h8 up) h10

end

theorem judgeRequest_ne_credit (words : List Word) (mode : CreditMode) (count : Nat) : judgeRequest words ≠ .credit mode count := by
  unfold judgeRequest
  split
  · split <;> nofun
  · nofun

theorem count_of_judgeCredit {words : List Word} {mode : CreditMode} {count : Nat} (h : judgeCredit words = .credit mode count) :
    count ≤ 255 := by
  unfold judgeCredit at h
  split at h
  · next w =>
    have byte := (w.extractLsb' 16 8).isLt
    dsimp only at h
    (repeat' split at h) <;> cases h <;> omega
  · cases h

/-- The count of a CREDIT frame is one byte (R174). -/
theorem count_of_judgeTrunk {symbols : List LineSymbol} {mode : CreditMode} {count : Nat}
    (h : judgeTrunk symbols = .credit mode count) : count ≤ 255 := by
  unfold judgeTrunk at h
  dsimp only at h
  (repeat' split at h)
  case h_1.isTrue.isTrue => exact count_of_judgeCredit h
  case h_1.isTrue.isFalse.isTrue => exact absurd h (judgeRequest_ne_credit _ _ _)
  all_goals cases h

/-! ### Credit waits (R125) -/

section
variable (s : State)

theorem State.link_of_creditWait {s : State} {p : TrunkId} (h : s.creditWait p = true) : (s.trunk p).link = .up := by
  simp only [State.creditWait, Bool.and_eq_true, beq_iff_eq] at h
  exact h.1.1.1

theorem State.quiet_settleWait (was : Bool) (p : TrunkId) : s.Quiet (s.settleWait was p) := by
  rw [State.settleWait_eq]
  refine s.quiet_modTrunk fun h => h.with_timers _ _ _ h.mark_none fun outside => ?_
  have idle : s.creditWait p ≠ true := fun wait => outside (State.link_of_creditWait wait)
  rw [if_neg (fun c => idle c.2.1), h.starve_none outside, ite_self]

/-- What credit waits make of an event is quiet. -/
theorem State.quiet_withWaits (f : State → State) : (f s).Quiet (s.withWaits f) :=
  (State.quiet_settleWait _ _ _).trans (State.quiet_settleWait _ _ _)

theorem State.quiet_startMark {p : TrunkId} (up : (s.trunk p).link = .up) : s.Quiet (s.startMark p) := by
  rw [State.startMark]
  exact s.quiet_modTrunk fun h => h.startUnit up (Nat.sub_le _ _) (le_refl _) _ _

theorem State.quiet_startReply {p : TrunkId} (up : (s.trunk p).link = .up) (r : Reply) : s.Quiet (s.startReply p r) :=
  s.quiet_modTrunk fun h => h.startUnit up (le_refl _) (le_refl _) _ _

theorem State.quiet_endUnit (p : TrunkId) : s.Quiet (s.modTrunk p Trunk.endUnit) :=
  s.quiet_modTrunk Trunk.Lawful.endUnit

end

/-- What the transmit arbiter's choice can be (R129). -/
theorem State.choose_cases (s : State) (p : TrunkId) :
    s.choose p = s ∨
      (s.trunk p).link = .up ∧
        (s.choose p = s.startMark p ∨ (∃ r, s.choose p = s.startReply p r) ∨
          ∃ head rest, (s.group p).queue = head :: rest ∧ head.inTransmission = false ∧ s.choose p = s.startFrame p head rest) := by
  by_cases free : (s.trunk p).link = .up ∧ (s.trunk p).tx = none
  · simp only [State.choose, if_pos free]
    by_cases owed : 8 ≤ (s.trunk p).markDebt
    · rw [if_pos owed]; exact Or.inr ⟨free.1, Or.inl rfl⟩
    rw [if_neg owed]
    cases (s.trunk p).replies with
    | cons r rest => exact Or.inr ⟨free.1, Or.inr (Or.inl ⟨r, rfl⟩)⟩
    | nil =>
      simp only [State.chooseFrameOrMark]
      cases queue : (s.group p).queue with
      | nil =>
        dsimp only
        split
        · exact Or.inr ⟨free.1, Or.inl rfl⟩
        · exact Or.inl rfl
      | cons head rest =>
        dsimp only
        split
        · next c => exact Or.inr ⟨free.1, Or.inr (Or.inr ⟨head, rest, rfl, c.1, rfl⟩)⟩
        · split
          · exact Or.inr ⟨free.1, Or.inl rfl⟩
          · exact Or.inl rfl
  · exact Or.inl (if_neg free)

end Sys2Proof.Machine
end


section
/-! The laws of one stream entry (R19 to R36), and the quiet operations on the stream table: frame references, hold stores, the loss
monitor and the restart of a group's streams. -/

namespace Sys2Proof.Machine

-- One after another, as in the tests: many proofs checked at once would each hold a thread.
set_option Elab.async false

/-! ### One entry -/

section
variable {x : Stream} (h : x.Lawful)
include h

theorem Stream.Lawful.with_refs (n : Nat) : ({ x with refs := n } : Stream).Lawful := h

theorem Stream.Lawful.length_le : x.length ≤ 8 := by
  obtain ⟨-, h, -⟩ := h; exact h

/-- A bound stream takes a state, a fill run and a hold store: LOST only with a fill run of at least 1, a valid store of L words (R29). -/
theorem Stream.Lawful.with_monitor (bound : x.group ≠ none) {state : StreamState} {run : Nat} {store : Option (List Word)}
    (known : state ≠ .unbound) (range : run ≤ 255) (lost : state = .lost → 1 ≤ run)
    (words : ∀ ws, store = some ws → ws.length = x.length) :
    ({ x with state := state, fillRun := run, holdStore := store } : Stream).Lawful := by
  obtain ⟨h1, h2, h3, h4, h5, h6, -, -, -, -, -, h12⟩ := h
  exact ⟨h1, h2, h3, h4, h5, h6, range, iff_of_false known bound, fun e => absurd e known, lost, words, h12⟩

/-- The same entry in a group, WAITING with no fill run and no hold store (R22, R24). -/
theorem Stream.Lawful.bind (g : GroupId) : (x.bind g).Lawful := by
  obtain ⟨h1, h2, h3, h4, h5, h6, -, -, -, -, -, h12⟩ := h
  exact ⟨h1, h2, h3, h4, h5, h6, Nat.zero_le _, by simp [Stream.bind], by simp [Stream.bind], by simp [Stream.bind],
    by simp [Stream.bind], h12⟩

theorem Stream.Lawful.unbind : x.unbind.Lawful := by
  obtain ⟨h1, h2, h3, h4, h5, h6, -, -, -, -, -, h12⟩ := h
  exact ⟨h1, h2, h3, h4, h5, h6, Nat.zero_le _, by simp [Stream.unbind], by simp [Stream.unbind], by simp [Stream.unbind],
    by simp [Stream.unbind], h12⟩

theorem Stream.Lawful.restart (bound : x.group ≠ none) : x.restart.Lawful :=
  h.with_monitor bound (by simp) (Nat.zero_le _) (by simp) (by simp)

theorem Stream.Lawful.atSoftReset : x.atSoftReset.Lawful := by
  obtain ⟨h1, h2, h3, h4, h5, h6, -, -, -, -, -, -⟩ := h
  refine ⟨h1, h2, h3, h4, h5, h6, Nat.zero_le _, ?_, ?_, ?_, by simp [Stream.atSoftReset], countersLawful_zero _⟩ <;>
    cases e : x.group <;> simp [Stream.atSoftReset, e]

theorem Stream.Lawful.state_of_bound (bound : x.group ≠ none) : x.state ≠ .unbound := by
  obtain ⟨-, -, -, -, -, -, -, h, -⟩ := h
  exact fun e => bound (h.mp e)

theorem Stream.Lawful.store_words : ∀ ws, x.holdStore = some ws → ws.length = x.length := by
  obtain ⟨-, -, -, -, -, -, -, -, -, -, h, -⟩ := h; exact h

end

theorem Stream.nextFillRun_le (x : Stream) : x.nextFillRun ≤ 255 := by
  unfold Stream.nextFillRun; split <;> omega

theorem Stream.nextFillRun_pos (x : Stream) : 1 ≤ x.nextFillRun := by
  unfold Stream.nextFillRun; split <;> omega

/-! ### The stream table -/

section
variable (s : State)

/-- A list's items, each with a quiet effect, have a quiet effect together. -/
theorem State.quiet_foldl {α : Type} {f : State → α → State} (quiet : ∀ (t : State) (a : α), t.Quiet (f t a)) (xs : List α) : s.Quiet (xs.foldl f s) := by
  induction xs generalizing s with
  | nil => exact State.Quiet.refl s
  | cons x xs ih => exact (quiet s x).trans (ih _)

theorem State.quiet_addRefs (entries : List Entry) : s.Quiet (s.addRefs entries) := by
  rw [State.addRefs]
  refine s.quiet_foldl (fun t e => ?_) entries
  exact t.quiet_modStream rfl fun h => h.with_refs _

theorem State.quiet_dropRefs (entries : List Entry) : s.Quiet (s.dropRefs entries) := by
  rw [State.dropRefs]
  refine s.quiet_foldl (fun t e => ?_) entries
  exact t.quiet_modStream rfl fun h => h.with_refs _

theorem State.quiet_updateHold (g : GroupId) (e : Entry) : s.Quiet (s.updateHold g e) := by
  unfold State.updateHold
  split
  · next c _ =>
    split
    · next active =>
      refine s.quiet_modStream rfl fun h => ?_
      have bound : (s.stream e.stream).group ≠ none := by simp [active.1]
      obtain ⟨-, -, -, -, -, -, range, -, -, lost, -, -⟩ := id h
      refine h.with_monitor bound (h.state_of_bound bound) range lost fun ws e => ?_
      cases e
      simpa [State.payload] using h.length_le
    · exact State.Quiet.refl s
  · exact State.Quiet.refl s

theorem State.quiet_stepReal {g : GroupId} {n : Instant} {i : StreamId} (bound : (s.stream i).group = some g) :
    s.Quiet (s.stepReal g n i) := by
  have step : s.Quiet (s.modStream i fun x => { x with state := .live, fillRun := 0 }) :=
    s.quiet_modStream rfl fun h => h.with_monitor (by simp [bound]) (by simp) (Nat.zero_le _) (by simp) h.store_words
  simp only [State.stepReal]
  split
  · exact step.trans (State.quiet_logFault _ _)
  · exact step

theorem State.quiet_stepFill {g : GroupId} {n : Instant} {i : StreamId} (bound : (s.stream i).group = some g) :
    s.Quiet (s.stepFill g n i) := by
  rw [State.stepFill_eq]
  dsimp only
  have step : s.Quiet (s.modStream i fun x =>
      { x with
        fillRun := (s.stream i).nextFillRun, counters := raise x.counters StreamCounter.fillEntries.index 1
        state := if (s.stream i).losesOnFill then .lost else x.state }) := by
    refine s.quiet_modStream rfl fun h => ?_
    have known := h.state_of_bound (by simp [bound])
    refine Stream.Lawful.with_counters (x := { s.stream i with
      fillRun := (s.stream i).nextFillRun, state := if (s.stream i).losesOnFill = true then .lost else (s.stream i).state }) ?_
      (countersLawful_raise h.counters _ _)
    refine h.with_monitor (by simp [bound]) ?_ (Stream.nextFillRun_le _) (fun _ => Stream.nextFillRun_pos _) h.store_words
    split
    · simp
    · exact known
  by_cases lost : (s.stream i).losesOnFill = true
  · rw [if_pos lost]; exact step.trans (State.quiet_logFault _ _)
  · rw [if_neg lost]; exact step

theorem State.quiet_stepMonitor (g : GroupId) (n : Instant) (e : Entry) : s.Quiet (s.stepMonitor g n e) := by
  unfold State.stepMonitor
  split
  · next bound =>
    split
    · exact s.quiet_stepReal bound
    · exact s.quiet_stepFill bound
  · exact State.Quiet.refl s

theorem State.quiet_stepMonitors (g : GroupId) (n : Instant) (entries : List Entry) : s.Quiet (s.stepMonitors g n entries) :=
  State.Quiet.trans (t := { s with draws := s.draws + 1 }) (State.Quiet.of_pieces rfl rfl rfl rfl rfl rfl rfl rfl rfl)
    (State.quiet_foldl _ (fun t e => t.quiet_stepMonitor g n e) _)

theorem State.quiet_restartStreams (g : GroupId) : s.Quiet (s.restartStreams g) := by
  refine s.quiet_mapStreams (fun i => ?_) (fun i h => ?_)
  · split <;> rfl
  · split
    · next bound => exact h.restart (by simp [bound])
    · exact h

end

end Sys2Proof.Machine
end


section
/-! A move of the cursor (R51, R58, R67): whether it takes the switch, and what it makes of the groups and of the stream table. -/

namespace Sys2Proof.Machine

-- One after another, as in the tests: many proofs checked at once would each hold a thread.
set_option Elab.async false

/-- A move of the cursor to `n` takes the switch: the cursor is set, before S, and `n` is S or after it (R51). -/
def Group.switchesAt (x : Group) (n : Instant) : Bool :=
  match x.cursor with
  | none => false
  | some e => x.templates.switchReached e n

theorem Group.switchesAt_iff {x : Group} {n : Instant} :
    x.switchesAt n = true ↔
      ∃ e a, x.cursor = some e ∧ x.templates.armed = some a ∧ before e a.switchAt = true ∧ atOrAfter n a.switchAt = true := by
  unfold Group.switchesAt Templates.switchReached
  cases x.cursor <;> cases x.templates.armed <;> simp

theorem atOrAfter_iff {a b : Instant} : atOrAfter a b = true ↔ a = b ∨ before b a = true := by
  simp [atOrAfter]

section
variable {s : State} {g : GroupId} {n : Instant}

theorem State.moveCursor_eq :
    s.moveCursor g n =
      if (s.group g).switchesAt n then (s.modGroup g fun x => { x with cursor := some n }).takeSwitch g
      else s.modGroup g fun x => { x with cursor := some n } := by
  unfold State.moveCursor Group.switchesAt
  cases (s.group g).cursor <;> simp

theorem State.moveCursor_group_self :
    (s.moveCursor g n).group g =
      { s.group g with
        cursor := some n
        templates := if (s.group g).switchesAt n then (s.group g).templates.switched else (s.group g).templates } := by
  rw [State.moveCursor_eq]
  split
  · simp [State.takeSwitch_group_self]
  · simp

theorem State.moveCursor_group_of_ne {g' : GroupId} (h : g' ≠ g) : (s.moveCursor g n).group g' = s.group g' := by
  rw [State.moveCursor_eq]
  split
  · rw [State.takeSwitch_group_of_ne h, State.group_modGroup_of_ne (h := h.symm)]
  · rw [State.group_modGroup_of_ne (h := h.symm)]

theorem State.moveCursor_stream (i : StreamId) :
    (s.moveCursor g n).stream i =
      if (s.group g).switchesAt n = true ∧ s.switchUnbinds g i = true then (s.stream i).unbind else s.stream i := by
  rw [State.moveCursor_eq]
  split
  · next reached =>
    rw [State.takeSwitch_stream]
    exact if_congr (by simp [State.switchUnbinds_iff, reached]) rfl rfl
  · next short => simp [short]

theorem State.moveCursor_of_short (short : (s.group g).switchesAt n = false) :
    s.moveCursor g n = s.modGroup g fun x => { x with cursor := some n } := by
  simp [State.moveCursor_eq, short]

/-- A move of the cursor touches the groups and the stream table alone. -/
theorem State.moveCursor_pieces :
    s.moveCursor g n = { s with groups := (s.moveCursor g n).groups, streams := (s.moveCursor g n).streams } := by
  apply State.ext_fields <;> simp

end

/-- Settles O23: `Group.switchesAt` decides, and the switch is read off the lemmas about `State.moveCursor`. -/
theorem cursorReachingSTakesTheSwitch : Obligations.CursorReachingSTakesTheSwitch := by
  intro s g e n cursor
  refine ⟨fun a armed ahead reached => ?_, fun short => ?_⟩
  · have switches : (s.group g).switchesAt n = true :=
      Group.switchesAt_iff.mpr ⟨e, a, cursor, armed, ahead, atOrAfter_iff.mpr reached⟩
    refine ⟨?_, fun i => ?_, fun g' other => State.moveCursor_group_of_ne other, State.moveCursor_pieces⟩
    · rw [State.moveCursor_group_self, if_pos switches, Templates.switched_of_armed armed]
      rfl
    · rw [State.moveCursor_stream]
      exact if_congr (by simp [switches, State.switchUnbinds_iff, armed]) rfl rfl
  · refine State.moveCursor_of_short (Bool.eq_false_iff.mpr fun switches => ?_)
    obtain ⟨e', a, cursor', armed, ahead, reached⟩ := Group.switchesAt_iff.mp switches
    cases cursor.symm.trans cursor'
    exact short a armed ⟨ahead, atOrAfter_iff.mp reached⟩

end Sys2Proof.Machine
end


section
/-! Moves: every command of a part is a chain of elementary changes, each with what the command has checked before it makes it.  A chain
may lean on the laws of the pieces of the state it starts from where `pieces` holds, on the window laws where `windows` holds, and on the
room in the frame queues where `room` holds: the laws that need none of them are kept by every chain. -/

namespace Sys2Proof.Machine

-- One after another, as in the tests: many proofs checked at once would each hold a thread.
set_option Elab.async false

/-- A move of the cursor of `g` to `n` that passes no open row, no waiting message's instant, and S only with no row open. -/
structure State.MayMoveTo (s : State) (g : GroupId) (n : Instant) : Prop where
  unset : (s.group g).cursor = none → (s.group g).state.isStopped = false ∧ s.intake = none
  ahead : ∀ e, (s.group g).cursor = some e → distance e n ≤ 2147483647
  rows : ∀ e, (s.group g).cursor = some e → ∀ r ∈ (s.group g).rows, distance e n ≤ distance e r.instant
  switch : ∀ e a, (s.group g).cursor = some e → (s.group g).templates.armed = some a → distance e a.switchAt < distance e n →
    (s.group g).rows = []
  waiting : ∀ e w, (s.group g).cursor = some e → s.intake = some w → w.group = g → distance e n ≤ distance e w.instant

/-- A message may wait for a forced advance of its group: it lies ahead of the cursor and beyond every open row (R70). -/
def State.MayWait (s : State) (w : WaitingMsg) : Prop :=
  ∀ e, (s.group w.group).cursor = some e →
    distance e w.instant ≤ 2147483647 ∧ ∀ r ∈ (s.group w.group).rows, distance e r.instant < distance e w.instant

/-- An instant lies in the window of a set cursor (R57). -/
def Group.InWindow (x : Group) (n : Instant) : Prop := ∃ e, x.cursor = some e ∧ distance e n < x.depth

/-- One elementary change of the part. -/
inductive State.Move (pieces windows room : Prop) : State → State → Prop
  /-- Nothing of the windows, queues, banks, pools and bindings changes. -/
  | quiet {s t : State} (quiet : s.Quiet t) : Move pieces windows room s t
  /-- A trunk port changes (R117). -/
  | port {s : State} {p : TrunkId} {f : Trunk → Trunk} (lawful : pieces → (s.trunk p).Lawful → (f (s.trunk p)).Lawful) :
      Move pieces windows room s (s.modTrunk p f)
  /-- The head of a frame queue goes into transmission (R131). -/
  | send {s : State} {g : GroupId} {head : FrameRecord} {rest : List FrameRecord} (queue : (s.group g).queue = head :: rest)
      (idle : head.inTransmission = false) (miss : Bool) :
      Move pieces windows room s
        (s.modGroup g fun x => { x with queue := { head with inTransmission := true, holdMiss := miss } :: rest })
  /-- The cursor moves, with the switch where it reaches S (R51, R58, R67, R70). -/
  | cursor {s : State} {g : GroupId} {n : Instant} (may : windows → s.MayMoveTo g n) : Move pieces windows room s (s.moveCursor g n)
  /-- An open row becomes a frame record at the tail of the queue and is released (R86). -/
  | close {s u : State} {g : GroupId} {r : Row} {reason : CloseReason} (opened : r ∈ (s.group g).rows)
      (set : (s.group g).cursor ≠ none) (free : room → (s.group g).queue.length < 8)
      (placed : (s.modGroup g fun x => { x with queue := x.queue ++ [s.recordOfRow g r reason] }).Quiet u) :
      Move pieces windows room s
        ((u.modGroup g fun x => { x with rows := x.rows.filter fun y => y.instant != r.instant }).freeRowList [r.rowId])
  /-- The record of an empty instant joins the tail of the queue (R85). -/
  | emit {s : State} {g : GroupId} {n : Instant} (set : (s.group g).cursor ≠ none) (free : room → (s.group g).queue.length < 8) :
      Move pieces windows room s (s.modGroup g fun x => { x with queue := x.queue ++ [s.emptyRecord g n] })
  /-- A free row opens for an instant of the window, under the generation that governs it (R74). -/
  | openRow {s : State} {g : GroupId} {n : Instant} {i : StreamId} {k : Nat} {gen : Generation} {rid : RowId} {rest : List RowId}
      (free : s.freeRows = rid :: rest) (fresh : (s.group g).rowAt n = none) (running : (s.group g).state = .running)
      (intake : s.intake = none) (judged : (s.group g).judgeSlot n i = .found k gen)
      (inWindow : windows → (s.group g).InWindow n) :
      Move pieces windows room s
        ({ s with freeRows := rest }.modGroup g fun x =>
          { x with rows := insertRow (x.cursor.getD n) (s.newRow g rid n gen) x.rows })
  /-- A free cell goes into an empty slot of an open row, a slot that is due (R75). -/
  | fillSlot {s : State} {g : GroupId} {n : Instant} {i : StreamId} {k : Nat} {gen : Generation} {r : Row} {c : CellId}
      {cs : List CellId} (free : s.freeCells = c :: cs) (row : (s.group g).rowAt n = some r) (absent : (r.slotMap[k]?).join = none)
      (judged : (s.group g).judgeSlot n i = .found k gen) :
      Move pieces windows room s ({ s with freeCells := cs }.modGroup g fun x => x.fillSlot n k c)
  /-- The head in transmission leaves its queue, and a drain or the aborting condition may end (R98, R108, R111). -/
  | leave {s u : State} {g : GroupId} {head : FrameRecord} {rest : List FrameRecord} (queue : (s.group g).queue = head :: rest)
      (sending : head.inTransmission = true) (removed : (s.removeHead g head rest).Quiet u) :
      Move pieces windows room s (u.afterLeaving g)
  /-- A row's deadline passes (R76). -/
  | expire {s : State} (g : GroupId) (n : Instant) :
      Move pieces windows room s
        (s.modGroup g fun x => { x with rows := x.rows.map fun y => if y.instant = n then { y with expired := true } else y })
  /-- A group starts from plain STOPPED (R104). -/
  | start {s : State} {g : GroupId} (stopped : (s.group g).state = .stopped) :
      Move pieces windows room s (s.modGroup g fun x => { x.clearWindow with state := .running })
  /-- A DRAINING group runs again (R104). -/
  | rerun {s : State} {g : GroupId} (draining : (s.group g).state = .draining) :
      Move pieces windows room s (s.modGroup g fun x => { x with state := .running })
  /-- A RUNNING group that holds something begins to drain (R106). -/
  | drain {s : State} {g : GroupId} (running : (s.group g).state = .running) (holds : (s.group g).isEmpty = false) :
      Move pieces windows room s (s.modGroup g fun x => { x with state := .draining })
  /-- A RUNNING group that holds nothing stops (R106, R108). -/
  | stop {s : State} {g : GroupId} (running : (s.group g).state = .running) (empty : (s.group g).isEmpty = true) :
      Move pieces windows room s (s.completeDrain g)
  /-- A group is aborted (R110). -/
  | abort {s : State} (g : GroupId) : Move pieces windows room s (s.abortGroup g)
  /-- The parameters of a STOPPED group are written, each in its range (R103). -/
  | params {s : State} {g : GroupId} {y : Group} (stopped : (s.group g).state.isActive = false)
      (lawful : (s.group g).paramsLawful → y.paramsLawful) : Move pieces windows room s (s.setGroup g ((s.group g).withParamsOf y))
  /-- The IDLE bank takes a lawful list (R43, R44). -/
  | editIdle {s : State} {g : GroupId} {slots : List Slot} (idle : (s.group g).templates.armed = none)
      (lawful : (s.group g).templates.Lawful → slotsLawful slots) : Move pieces windows room s (s.setIdleSlots g slots)
  /-- A commit with the cursor unset (R48). -/
  | commitNow {s : State} {g : GroupId} (idle : (s.group g).templates.armed = none)
      (agrees : s.commitConflict g (s.group g).templates.otherSlots = false) (unset : (s.group g).cursor = none) :
      Move pieces windows room s (s.commitNow g)
  /-- A commit armed for a switch instant (R49). -/
  | commitArmed {s : State} {g : GroupId} {e n n' : Instant} {atMode : Bool} (idle : (s.group g).templates.armed = none)
      (agrees : s.commitConflict g (s.group g).templates.otherSlots = false) (set : (s.group g).cursor = some e)
      (due : (s.group g).switchInstant e atMode n' = some n) : Move pieces windows room s (s.commitArmed g n)
  /-- An ARMED bank that governs no open row is withdrawn (R54). -/
  | cancel {s : State} {g : GroupId} {a : Armed} (armed : (s.group g).templates.armed = some a)
      (unused : ((s.group g).rows.any fun x => x.generation == a.generation) = false) : Move pieces windows room s (s.cancelArmed g)
  /-- The intake holds a message for a forced advance, or lets it go (R63, R71). -/
  | hold {s : State} {w : WaitingMsg} (may : windows → s.MayWait w) : Move pieces windows room s { s with intake := some w }
  | letGo (s : State) : Move pieces windows room s { s with intake := none }
  /-- The three resets (R153, R155). -/
  | powerOn (s : State) : Move pieces windows room s s.powerOn
  | pinReset (s : State) : Move pieces windows room s s.pinReset
  | softReset (s : State) : Move pieces windows room s s.softReset
  /-- A reset pin is released, and the ports look at their lines (R153). -/
  | release {s : State} (down : pieces → (∀ p, (s.node p).link = .down) ∧ ∀ p, (s.trunk p).link = .down) : Move pieces windows room s s.release

/-- A chain of elementary changes. -/
def State.Moves (pieces windows room : Prop) : State → State → Prop := Relation.ReflTransGen (State.Move pieces windows room)

section
variable {pieces windows room : Prop} {s t u : State}

theorem State.Move.moves (h : State.Move pieces windows room s t) : State.Moves pieces windows room s t := Relation.ReflTransGen.single h

theorem State.Quiet.moves (h : s.Quiet t) : State.Moves pieces windows room s t := (State.Move.quiet h).moves

theorem State.Moves.refl (s : State) : State.Moves pieces windows room s s := Relation.ReflTransGen.refl

theorem State.Moves.trans (h : State.Moves pieces windows room s t) (k : State.Moves pieces windows room t u) : State.Moves pieces windows room s u :=
  Relation.ReflTransGen.trans h k

theorem State.Moves.quiet (h : State.Moves pieces windows room s t) (k : t.Quiet u) : State.Moves pieces windows room s u := h.trans k.moves

/-- What every move keeps, every chain of moves keeps. -/
theorem State.Moves.keeps {P : State → Prop} (keeps : ∀ s t, State.Move pieces windows room s t → P s → P t)
    (h : State.Moves pieces windows room s t) (start : P s) : P t := by
  induction h with
  | refl => exact start
  | tail _ last ih => exact keeps _ _ last ih

end

end Sys2Proof.Machine
end


section
/-! Serial arithmetic along a window (R1, R57), rows in instant order (R56, R74), and what a leaving record and the resets make of the
groups: the facts by which moves keep the laws. -/

namespace Sys2Proof.Machine

-- One after another, as in the tests: many proofs checked at once would each hold a thread.
set_option Elab.async false

/-! ### Distances (R1) -/

theorem distance_self (e : Instant) : distance e e = 0 := by simp [distance]

theorem distance_eq_zero_iff {e n : Instant} : distance e n = 0 ↔ n = e := by
  unfold distance
  constructor <;> intro h <;> bv_omega

theorem distance_succ_self (e : Instant) : distance e (e + 1) = 1 := by
  unfold distance; bv_omega

/-- Seen from a point `n` of its way, an instant beyond it is as much nearer as `n` is away. -/
theorem distance_from {e n m : Instant} (h : distance e n ≤ distance e m) : distance n m = distance e m - distance e n := by
  unfold distance at *; bv_omega

theorem distance_inj {e n m : Instant} (h : distance e n = distance e m) : n = m := by
  unfold distance at h; bv_omega

theorem before_iff_distance {e n : Instant} : before e n = true ↔ 1 ≤ distance e n ∧ distance e n ≤ 2147483647 := by
  simp [before, distance]

/-- S is still ahead of a cursor that has not reached it. -/
theorem before_of_not_reached {e n m : Instant} (ahead : before e m = true) (near : distance e n ≤ 2147483647)
    (short : atOrAfter n m = false) : before n m = true := by
  simp only [atOrAfter, Bool.or_eq_false_iff, beq_eq_false_iff_ne, before, decide_eq_false_iff_not, decide_eq_true_eq, distance,
    ne_eq] at *
  bv_omega

/-- An instant is at or after S, seen from a point `e` before S, when it is as far away as S at least. -/
theorem atOrAfter_iff_distance {e n m : Instant} (ahead : before e m = true) (near : distance e n ≤ 2147483647) :
    atOrAfter n m = true ↔ distance e m ≤ distance e n := by
  simp only [atOrAfter, Bool.or_eq_true, beq_iff_eq, before, decide_eq_true_eq, distance] at *
  constructor <;> intro h <;> bv_omega

/-! ### Rows in instant order -/

theorem insertRow_perm (e : Instant) (r : Row) (rows : List Row) : (insertRow e r rows).Perm (r :: rows) := by
  induction rows with
  | nil => exact List.Perm.refl _
  | cons x xs ih =>
    rw [insertRow]
    split
    · exact List.Perm.refl _
    · exact (ih.cons x).trans (List.Perm.swap r x xs)

theorem mem_insertRow {e : Instant} {r y : Row} {rows : List Row} : y ∈ insertRow e r rows ↔ y = r ∨ y ∈ rows := by
  rw [(insertRow_perm e r rows).mem_iff, List.mem_cons]

/-- A row opened for an instant that has none takes its place in instant order (R56, R74). -/
theorem insertRow_pairwise {e : Instant} {r : Row} {rows : List Row}
    (sorted : rows.Pairwise fun x y => distance e x.instant < distance e y.instant) (fresh : ∀ x ∈ rows, x.instant ≠ r.instant) :
    (insertRow e r rows).Pairwise fun x y => distance e x.instant < distance e y.instant := by
  induction rows with
  | nil => simp [insertRow]
  | cons x xs ih =>
    obtain ⟨first, sorted⟩ := List.pairwise_cons.mp sorted
    rw [insertRow]
    split
    · next before => 
      refine List.pairwise_cons.mpr ⟨fun y hy => ?_, List.pairwise_cons.mpr ⟨first, sorted⟩⟩
      rcases List.mem_cons.mp hy with rfl | hy
      · exact before
      · exact before.trans (first y hy)
    · next after =>
      refine List.pairwise_cons.mpr ⟨fun y hy => ?_, ih sorted fun y hy => fresh y (List.mem_cons_of_mem _ hy)⟩
      rcases mem_insertRow.mp hy with rfl | hy
      · exact lt_of_le_of_ne (Nat.not_lt.mp after) fun same => fresh x List.mem_cons_self (distance_inj same)
      · exact first y hy

/-! ### Windows by their instants -/

/-- The law on the cursor as one of the open rows: each lies in the window, and they stand in instant order. -/
theorem Group.windowLawful_iff {x : Group} :
    x.windowLawful ↔ (x.cursor = none → x.rows = []) ∧ ∀ e, x.cursor = some e →
      (∀ r ∈ x.rows, distance e r.instant < x.depth) ∧ x.rows.Pairwise fun r r' => distance e r.instant < distance e r'.instant := by
  simp only [Group.windowLawful, List.pairwise_map]

theorem Group.rowAt_eq_none_iff {x : Group} {n : Instant} : x.rowAt n = none ↔ ∀ r ∈ x.rows, r.instant ≠ n := by
  simp [Group.rowAt]

theorem Group.rowAt_eq_some {x : Group} {n : Instant} {r : Row} (h : x.rowAt n = some r) : r ∈ x.rows ∧ r.instant = n := by
  refine ⟨List.mem_of_find?_eq_some h, ?_⟩
  simpa using List.find?_some h

/-! ### A record's leaving (R98, R108, R111) -/

/-- What the leaving of a record brings about for its group. -/
theorem State.afterLeaving_cases (s : State) (g : GroupId) :
    ((s.group g).state = .draining ∧ (s.group g).isEmpty = true ∧ s.afterLeaving g = s.completeDrain g) ∨
      ((s.group g).state = .aborting ∧ s.afterLeaving g = s.modGroup g fun x => { x with state := .stopped }) ∨
      ((s.group g).state ≠ .aborting ∧ ((s.group g).state = .draining → (s.group g).isEmpty = false) ∧ s.afterLeaving g = s) := by
  cases state : (s.group g).state with
  | draining => cases empty : (s.group g).isEmpty <;> simp [State.afterLeaving, state, empty]
  | aborting | stopped | running => simp [State.afterLeaving, state]

theorem State.removeHead_group_self (s : State) (g : GroupId) (head : FrameRecord) (rest : List FrameRecord) :
    (s.removeHead g head rest).group g = { s.group g with queue := rest } := by
  simp [State.removeHead]

theorem State.removeHead_group_of_ne (s : State) {g g' : GroupId} (h : g' ≠ g) (head : FrameRecord) (rest : List FrameRecord) :
    (s.removeHead g head rest).group g' = s.group g' := by
  simp [State.removeHead, State.group_modGroup_of_ne (h := h.symm)]

/-! ### Resets (R153, R155) -/

@[simp] theorem State.powerOn_group (s : State) (g : GroupId) : s.powerOn.group g = Group.initial := by
  simp [State.powerOn, State.group, State.reset]

@[simp] theorem State.pinReset_group (s : State) (g : GroupId) : s.pinReset.group g = Group.initial :=
  s.powerOn_group g

@[simp] theorem State.powerOn_stream (s : State) (i : StreamId) : s.powerOn.stream i = Stream.initial := by
  simp [State.powerOn, State.stream, State.reset]

@[simp] theorem State.pinReset_stream (s : State) (i : StreamId) : s.pinReset.stream i = Stream.initial :=
  s.powerOn_stream i

theorem State.lookAtLines_node (s : State) (p : NodeId) : s.lookAtLines.node p = (s.node p).lookAtLine := by
  simp [State.lookAtLines, State.node]

theorem State.lookAtLines_trunk (s : State) (p : TrunkId) : s.lookAtLines.trunk p = (s.trunk p).lookAtLine := by
  simp [State.lookAtLines, State.trunk]

/-- The switches of a soft reset, one for each group with an ARMED bank (R52, R155). -/
def State.takeSwitches (s : State) : State := (s.takeSwitch 0).takeSwitch 1

theorem GroupId.eq_zero_or_one (g : GroupId) : g = 0 ∨ g = 1 := by revert g; decide

theorem State.takeSwitches_group (s : State) (g : GroupId) :
    s.takeSwitches.group g = { s.group g with templates := (s.group g).templates.switched } := by
  rcases GroupId.eq_zero_or_one g with rfl | rfl
  · rw [State.takeSwitches, State.takeSwitch_group_of_ne (by decide), State.takeSwitch_group_self]
  · rw [State.takeSwitches, State.takeSwitch_group_self, State.takeSwitch_group_of_ne (by decide)]

theorem Templates.switched_armed (t : Templates) : t.switched.armed = none := by
  cases armed : t.armed with
  | none => rw [Templates.switched_of_not_armed armed, armed]
  | some a => rw [Templates.switched_of_armed armed]; rfl

theorem State.softReset_group (s : State) (g : GroupId) :
    s.softReset.group g = { s.group g with templates := (s.group g).templates.switched }.atSoftReset := by
  rw [← State.takeSwitches_group]
  simp [State.softReset, State.lookAtLines, State.group, State.takeSwitches]

theorem State.softReset_stream (s : State) (i : StreamId) : s.softReset.stream i = (s.takeSwitches.stream i).atSoftReset := by
  simp [State.softReset, State.lookAtLines, State.stream, State.takeSwitches]

/-- The switch of each group touches the streams bound to it alone. -/
theorem State.takeSwitches_stream (s : State) (i : StreamId) :
    s.takeSwitches.stream i =
      if s.switchUnbinds 0 i = true ∨ s.switchUnbinds 1 i = true then (s.stream i).unbind else s.stream i := by
  have second : (s.takeSwitch 0).switchUnbinds 1 i = true ↔ s.switchUnbinds 1 i = true := by
    rw [State.switchUnbinds_iff, State.switchUnbinds_iff, State.takeSwitch_group_of_ne (by decide), State.takeSwitch_stream]
    split
    · next unbinds =>
      have := (State.switchUnbinds_iff.mp unbinds).2.1
      simp [this, Stream.unbind]
    · rfl
  rw [State.takeSwitches, State.takeSwitch_stream, State.takeSwitch_stream]
  by_cases h0 : s.switchUnbinds 0 i = true <;> by_cases h1 : s.switchUnbinds 1 i = true <;> simp [second, h0, h1, Stream.unbind]

end Sys2Proof.Machine
end


section
/-! The laws on the windows (R51, R56, R58, R70, R96, R101 to R111), kept by every move of a chain that leans on them. -/

namespace Sys2Proof.Machine

-- One after another, as in the tests: many proofs checked at once would each hold a thread.
set_option Elab.async false

/-! ### One group -/

/-- The laws on one group's parameters, window, state and queue. -/
structure Group.Placed (x : Group) : Prop where
  params : x.paramsLawful
  window : x.windowLawful
  state : x.stateLawful
  queue : x.queueLawful

/-- `y` has the state, the window, the queue and the switch instant of `x`; rows and lists may differ in what stands in them. -/
structure Group.SameShape (x y : Group) : Prop where
  state : y.state = x.state
  params : x.paramsLawful → y.paramsLawful
  depth : y.depth = x.depth
  cursor : y.cursor = x.cursor
  instants : y.rows.map Row.instant = x.rows.map Row.instant
  queue : y.queue = x.queue
  armed : y.templates.armed = x.templates.armed

theorem Group.Quiet.sameShape {x y : Group} (h : x.Quiet y) : x.SameShape y :=
  ⟨h.state, h.paramsLawful.mpr, h.depth, h.cursor, by rw [h.rows], h.queue, by rw [h.templates]⟩

theorem Group.rows_nil_of_instants {x y : Group} (h : y.rows.map Row.instant = x.rows.map Row.instant) : y.rows = [] ↔ x.rows = [] := by
  rw [← List.map_eq_nil_iff (f := Row.instant), h, List.map_eq_nil_iff]

theorem Group.windowLawful_congr {x y : Group} (depth : y.depth = x.depth) (cursor : y.cursor = x.cursor)
    (instants : y.rows.map Row.instant = x.rows.map Row.instant) (h : x.windowLawful) : y.windowLawful := by
  have distances : ∀ e, y.rows.map (fun r => distance e r.instant) = x.rows.map fun r => distance e r.instant := fun e => by
    simpa [Function.comp_def] using congrArg (List.map (distance e)) instants
  refine ⟨fun unset => (Group.rows_nil_of_instants instants).mpr (h.1 (cursor ▸ unset)), fun e he => ?_⟩
  obtain ⟨near, sorted⟩ := h.2 e (cursor ▸ he)
  rw [distances, depth]
  refine ⟨fun r hr => ?_, sorted⟩
  obtain ⟨r', hr', same⟩ := List.mem_map.mp (distances e ▸ List.mem_map_of_mem (f := fun r : Row => distance e r.instant) hr)
  exact same ▸ near r' hr'

theorem Group.stateLawful_congr {x y : Group} (same : x.SameShape y) (h : x.stateLawful) : y.stateLawful := by
  obtain ⟨unset, empty, kept, holds, armed⟩ := h
  have isEmpty : y.isEmpty = x.isEmpty := by
    have rows := Group.rows_nil_of_instants same.instants
    rw [Bool.eq_iff_iff, Group.isEmpty_iff, Group.isEmpty_iff, rows, same.queue]
  unfold Group.stateLawful
  rw [same.state, same.cursor, same.queue, same.armed, isEmpty]
  exact ⟨unset, empty, kept, holds, armed⟩

theorem Group.Placed.congr {x y : Group} (h : x.Placed) (same : x.SameShape y) : y.Placed where
  params := same.params h.params
  window := Group.windowLawful_congr same.depth same.cursor same.instants h.window
  state := Group.stateLawful_congr same h.state
  queue := by unfold Group.queueLawful; rw [same.queue]; exact h.queue

section
variable {x : Group} (h : x.Placed)
include h

theorem Group.Placed.cursor_of_stopped (stopped : x.state = .stopped ∨ x.state = .aborting) : x.cursor = none :=
  h.state.1 (by rcases stopped with s | s <;> simp [s, GroupState.isStopped])

theorem Group.Placed.rows_of_unset (unset : x.cursor = none) : x.rows = [] := h.window.1 unset

theorem Group.Placed.not_stopped_of_set (set : x.cursor ≠ none) : x.state ≠ .stopped ∧ x.state ≠ .aborting :=
  ⟨fun s => set (h.cursor_of_stopped (Or.inl s)), fun s => set (h.cursor_of_stopped (Or.inr s))⟩

theorem Group.Placed.not_armed_of_unset (unset : x.cursor = none) : x.templates.armed = none := by
  cases armed : x.templates.armed with
  | none => rfl
  | some a =>
    obtain ⟨e, cursor, -⟩ := h.state.2.2.2.2 a armed
    cases unset.symm.trans cursor

theorem Group.Placed.ahead {e : Instant} {a : Armed} (cursor : x.cursor = some e) (armed : x.templates.armed = some a) :
    before e a.switchAt = true := by
  obtain ⟨e', cursor', ahead⟩ := h.state.2.2.2.2 a armed
  cases cursor.symm.trans cursor'
  exact ahead

theorem Group.Placed.near {e : Instant} (cursor : x.cursor = some e) {r : Row} (open_ : r ∈ x.rows) : distance e r.instant < x.depth :=
  (h.window.2 e cursor).1 r open_

end

/-- A group without rows whose cursor is unset and no bank of which is ARMED is placed where its state agrees with its queue. -/
theorem Group.placed_of_unset {x : Group} (params : x.paramsLawful) (unset : x.cursor = none) (rows : x.rows = [])
    (armed : x.templates.armed = none) (stopped : x.state = .stopped → x.queue = [])
    (aborting : x.state = .aborting → ∃ r, x.queue = [r] ∧ r.inTransmission = true) (draining : x.state ≠ .draining)
    (queue : x.queueLawful) : x.Placed :=
  ⟨params, ⟨fun _ => rows, fun e he => by rw [unset] at he; cases he⟩,
    ⟨fun _ => unset, stopped, aborting, fun d => absurd d draining, fun a ha => by rw [armed] at ha; cases ha⟩, queue⟩

/-- A record joins the tail of a queue whose group has its cursor set (R86). -/
theorem Group.Placed.append {x : Group} (h : x.Placed) (set : x.cursor ≠ none) {r : FrameRecord} (idle : r.inTransmission = false) :
    ({ x with queue := x.queue ++ [r] } : Group).Placed := by
  obtain ⟨notStopped, notAborting⟩ := h.not_stopped_of_set set
  refine ⟨h.params, h.window, ⟨h.state.1, fun s => absurd s notStopped, fun s => absurd s notAborting, fun _ => ?_, h.state.2.2.2.2⟩, ?_⟩
  · simp [Group.isEmpty]
  · intro r' hr'
    cases queue : x.queue with
    | nil => simp [queue] at hr'
    | cons q qs =>
      simp only [queue, List.cons_append, List.tail_cons, List.mem_append, List.mem_singleton] at hr'
      rcases hr' with hr' | rfl
      · exact h.queue r' (by simpa [queue] using hr')
      · exact idle

/-- An open row leaves a group that still holds something (R86). -/
theorem Group.Placed.filterRows {x : Group} (h : x.Placed) (holds : x.queue ≠ []) (keep : Row → Bool) :
    ({ x with rows := x.rows.filter keep } : Group).Placed := by
  refine ⟨h.params, Group.windowLawful_iff.mpr ?_, ⟨h.state.1, h.state.2.1, h.state.2.2.1, fun _ => ?_, h.state.2.2.2.2⟩, h.queue⟩
  · obtain ⟨unset, rows⟩ := Group.windowLawful_iff.mp h.window
    refine ⟨fun u => by simp [unset u], fun e he => ?_⟩
    obtain ⟨near, sorted⟩ := rows e he
    exact ⟨fun r hr => near r (List.mem_of_mem_filter hr), sorted.filter _⟩
  · simp [Group.isEmpty, holds]

/-- A row opens for an instant of the window (R74). -/
theorem Group.Placed.openRow {x : Group} (h : x.Placed) {r : Row} (fresh : x.rowAt r.instant = none) (inWindow : x.InWindow r.instant) :
    ({ x with rows := insertRow (x.cursor.getD r.instant) r x.rows } : Group).Placed := by
  obtain ⟨e, cursor, near⟩ := inWindow
  obtain ⟨-, rows⟩ := Group.windowLawful_iff.mp h.window
  obtain ⟨nears, sorted⟩ := rows e cursor
  have set : x.cursor ≠ none := by simp [cursor]
  refine ⟨h.params, Group.windowLawful_iff.mpr ⟨fun u => absurd u set, fun e' he' => ?_⟩,
    ⟨h.state.1, h.state.2.1, h.state.2.2.1, fun _ => ?_, h.state.2.2.2.2⟩, h.queue⟩
  · cases cursor.symm.trans he'
    simp only [cursor, Option.getD_some]
    refine ⟨fun y hy => ?_, insertRow_pairwise sorted (Group.rowAt_eq_none_iff.mp fresh)⟩
    rcases mem_insertRow.mp hy with rfl | hy
    · exact near
    · exact nears y hy
  · have : (insertRow (x.cursor.getD r.instant) r x.rows) ≠ [] := fun none =>
      absurd (mem_insertRow.mpr (Or.inl rfl) : r ∈ insertRow (x.cursor.getD r.instant) r x.rows) (by simp [none])
    simp [Group.isEmpty, this]

/-- The cursor moves over no open row, and over S only with the switch (R51, R58). -/
theorem Group.Placed.moveCursor {x : Group} (h : x.Placed) {n : Instant} (unset : x.cursor = none → x.state.isStopped = false)
    (ahead : ∀ e, x.cursor = some e → distance e n ≤ 2147483647)
    (rows : ∀ e, x.cursor = some e → ∀ r ∈ x.rows, distance e n ≤ distance e r.instant) :
    ({ x with cursor := some n, templates := if x.switchesAt n then x.templates.switched else x.templates } : Group).Placed := by
  obtain ⟨unsetRows, window⟩ := Group.windowLawful_iff.mp h.window
  have active : x.state.isStopped ≠ true := fun stopped => by
    have none := h.state.1 stopped
    simp [unset none] at stopped
  refine ⟨h.params, Group.windowLawful_iff.mpr ⟨nofun, fun e' he' => ?_⟩,
    ⟨fun stopped => absurd stopped active, h.state.2.1, h.state.2.2.1, h.state.2.2.2.1, fun a armed => ⟨n, rfl, ?_⟩⟩, h.queue⟩
  · cases he'
    cases cursor : x.cursor with
    | none => simp [unsetRows cursor]
    | some e =>
      obtain ⟨near, sorted⟩ := window e cursor
      have nearer : ∀ r ∈ x.rows, distance n r.instant = distance e r.instant - distance e n := fun r hr =>
        distance_from (rows e cursor r hr)
      refine ⟨fun r hr => ?_, List.Pairwise.imp_of_mem (fun {r r'} hr hr' lt => ?_) sorted⟩
      · have := near r hr
        rw [nearer r hr]; exact lt_of_le_of_lt (Nat.sub_le _ _) this
      · have := rows e cursor r hr
        rw [nearer r hr, nearer r' hr']; omega
  · simp only at armed ⊢
    split at armed
    · rw [Templates.switched_armed] at armed; cases armed
    · next short =>
      obtain ⟨e, cursor, before⟩ := h.state.2.2.2.2 a armed
      refine before_of_not_reached before (ahead e cursor) (Bool.eq_false_iff.mpr fun reached => short ?_)
      exact Group.switchesAt_iff.mpr ⟨e, a, cursor, armed, before, reached⟩

/-- A drain completes: a group that holds nothing is STOPPED (R108). -/
theorem Group.placed_of_drained {x y : Group} (params : x.paramsLawful)
    (hy : y = { x with
      state := .stopped, cursor := none, lateRun := 0, lateLogged := false, templates := x.templates.switched })
    (empty : x.isEmpty = true) : y.Placed := by
  obtain ⟨rows, queue⟩ := Group.isEmpty_iff.mp empty
  subst hy
  exact Group.placed_of_unset params rfl rows (Templates.switched_armed _) (fun _ => queue) nofun nofun (by simp [Group.queueLawful, queue])

/-- The switch instant of an armed commit lies ahead of the cursor (R49). -/
theorem Group.before_of_switchInstant {x : Group} (params : x.paramsLawful) {e n n' : Instant} {atMode : Bool}
    (h : x.switchInstant e atMode n' = some n) : before e n = true ∧ x.depth ≤ distance e n := by
  obtain ⟨low, high, -⟩ := params
  have earliest : distance e (e + BitVec.ofNat 32 x.depth) = x.depth := by unfold distance; bv_omega
  unfold Group.switchInstant at h
  dsimp only at h
  split at h
  · split at h
    · next c =>
      cases h
      obtain ⟨reached, near⟩ := c
      rw [atOrAfter_iff_distance (e := e) (before_iff_distance.mpr (by omega)) (by omega), earliest] at reached
      exact ⟨before_iff_distance.mpr (by omega), reached⟩
    · cases h
  · cases h
    exact ⟨before_iff_distance.mpr (by omega), earliest.ge⟩

/-- The queue that an abort leaves holds the record in transmission alone (R110, R111). -/
theorem Group.kept_cases {x : Group} (h : x.queueLawful) : x.kept = [] ∨ ∃ r, x.kept = [r] ∧ r.inTransmission = true := by
  unfold Group.queueLawful at h
  cases queue : x.queue with
  | nil => simp [Group.kept, queue]
  | cons r rest =>
    rw [queue, List.tail_cons] at h
    have tail : rest.filter (fun r => r.inTransmission) = [] := List.filter_eq_nil_iff.mpr fun y hy => by simp [h y hy]
    cases sending : r.inTransmission <;> simp [Group.kept, queue, sending, tail]

end Sys2Proof.Machine
end


section
/-! Every move of a chain that leans on the window laws keeps them. -/

namespace Sys2Proof.Machine

-- One after another, as in the tests: many proofs checked at once would each hold a thread.
set_option Elab.async false

theorem State.windowsLawful_iff {s : State} : s.WindowsLawful ↔ (∀ g, (s.group g).Placed) ∧ s.waitLawful := by
  refine and_congr (forall_congr' fun g => ?_) Iff.rfl
  exact ⟨fun ⟨a, b, c, d⟩ => ⟨a, b, c, d⟩, fun ⟨a, b, c, d⟩ => ⟨a, b, c, d⟩⟩

/-- `y` has the cursor of `x`, or none, and no open row for an instant that has none in `x`. -/
def Group.Within (x y : Group) : Prop :=
  ∀ e, y.cursor = some e → x.cursor = some e ∧ ∀ r ∈ y.rows, ∃ r' ∈ x.rows, r'.instant = r.instant

theorem Group.SameShape.within {x y : Group} (h : x.SameShape y) : x.Within y := by
  refine fun e he => ⟨h.cursor ▸ he, fun r hr => ?_⟩
  have : r.instant ∈ x.rows.map Row.instant := h.instants ▸ List.mem_map_of_mem hr
  simpa using this

theorem Group.within_of_unset {x y : Group} (unset : y.cursor = none) : x.Within y := fun e he => by rw [unset] at he; cases he

section
variable {s t : State} {g : GroupId}

theorem State.WindowsLawful.placed (h : s.WindowsLawful) (g : GroupId) : (s.group g).Placed := (State.windowsLawful_iff.mp h).1 g

/-- A message that waits is judged by its own group's cursor and rows. -/
theorem State.waitLawful_of_within (h : s.waitLawful) (intake : t.intake = s.intake) (within : ∀ g, (s.group g).Within (t.group g)) :
    t.waitLawful := by
  intro w e hw he
  obtain ⟨cursor, rows⟩ := within w.group e he
  obtain ⟨near, beyond⟩ := h w e (intake ▸ hw) cursor
  refine ⟨near, fun r hr => ?_⟩
  obtain ⟨r', hr', same⟩ := rows r hr
  exact same ▸ beyond r' hr'

/-- A change of one group that opens no row and moves no set cursor keeps the window laws where it keeps that group's. -/
theorem State.windowsLawful_of_one (h : s.WindowsLawful) (others : ∀ g', g' ≠ g → t.group g' = s.group g') (intake : t.intake = s.intake)
    (placed : (t.group g).Placed) (within : (s.group g).Within (t.group g)) : t.WindowsLawful := by
  refine State.windowsLawful_iff.mpr ⟨fun g' => ?_, State.waitLawful_of_within h.2 intake fun g' => ?_⟩
  · by_cases same : g' = g
    · subst same; exact placed
    · rw [others g' same]; exact h.placed g'
  · by_cases same : g' = g
    · subst same; exact within
    · rw [others g' same]; exact fun e he => ⟨he, fun r hr => ⟨r, hr, rfl⟩⟩

theorem State.windowsLawful_modGroup (h : s.WindowsLawful) (f : Group → Group) (placed : (f (s.group g)).Placed)
    (within : (s.group g).Within (f (s.group g))) : (s.modGroup g f).WindowsLawful :=
  State.windowsLawful_of_one h (fun g' other => State.group_modGroup_of_ne (h := other.symm) ..) rfl (by simpa using placed)
    (by simpa using within)

theorem State.Quiet.keepsWindows (quiet : s.Quiet t) (h : s.WindowsLawful) : t.WindowsLawful :=
  State.windowsLawful_iff.mpr ⟨fun g => (h.placed g).congr (quiet.groups g).sameShape,
    State.waitLawful_of_within h.2 quiet.intake fun g => (quiet.groups g).sameShape.within⟩

theorem State.windowsLawful_moveCursor {n : Instant} (h : s.WindowsLawful) (may : s.MayMoveTo g n) : (s.moveCursor g n).WindowsLawful := by
  refine State.windowsLawful_iff.mpr ⟨fun g' => ?_, fun w e' hw he' => ?_⟩
  · by_cases same : g' = g
    · subst same
      rw [State.moveCursor_group_self]
      exact (h.placed g').moveCursor (fun unset => (may.unset unset).1) may.ahead may.rows
    · rw [State.moveCursor_group_of_ne same]; exact h.placed g'
  · rw [(s.moveCursor_frame g n).2.2.2.2.2.2.1] at hw
    by_cases same : w.group = g
    · subst same
      rw [State.moveCursor_group_self] at he' ⊢
      cases he'
      cases cursor : (s.group w.group).cursor with
      | none => have := (may.unset cursor).2; simp [this] at hw
      | some e =>
        obtain ⟨near, beyond⟩ := h.2 w e hw cursor
        have passed := may.waiting e w cursor hw rfl
        rw [distance_from passed]
        refine ⟨by omega, fun r hr => ?_⟩
        have passedRow := may.rows e cursor r hr
        have := beyond r hr
        rw [distance_from passedRow]; omega
    · rw [State.moveCursor_group_of_ne same] at he' ⊢
      exact h.2 w e' hw he'

/-- A record's leaving keeps the window laws (R104, R108, R111). -/
theorem State.windowsLawful_leave {u : State} {head : FrameRecord} {rest : List FrameRecord} (h : s.WindowsLawful)
    (queue : (s.group g).queue = head :: rest) (removed : (s.removeHead g head rest).Quiet u) : (u.afterLeaving g).WindowsLawful := by
  have quiet := removed.groups
  obtain ⟨params, window, ⟨unset, stopped, aborting, -, armed⟩, idle⟩ := h.placed g
  rw [Group.queueLawful, queue, List.tail_cons] at idle
  have idleRest : ∀ r ∈ rest.tail, r.inTransmission = false := fun r hr => idle r (List.mem_of_mem_tail hr)
  have notStopped : (s.group g).state ≠ .stopped := fun e => by simp [stopped e] at queue
  have others : ∀ g', g' ≠ g → (s.group g').Quiet (u.group g') := fun g' other => by
    rw [← State.removeHead_group_of_ne s other head rest]; exact quiet g'
  have mine : ({ s.group g with queue := rest } : Group).SameShape (u.group g) := by
    rw [← State.removeHead_group_self s g head rest]; exact (quiet g).sameShape
  have intake : u.intake = s.intake := by rw [removed.intake]; simp
  have within : (s.group g).Within (u.group g) := mine.within
  have settle : ∀ t : State, (∀ g', g' ≠ g → t.group g' = u.group g') → t.intake = u.intake → (t.group g).Placed →
      (u.group g).Within (t.group g) → t.WindowsLawful := by
    intro t same intake' placed within'
    refine State.windowsLawful_iff.mpr ⟨fun g' => ?_, State.waitLawful_of_within h.2 (intake'.trans intake) fun g' => ?_⟩
    · by_cases e : g' = g
      · subst e; exact placed
      · rw [same g' e]; exact (h.placed g').congr (others g' e).sameShape
    · by_cases e : g' = g
      · subst e
        intro c hc
        obtain ⟨cu, rows⟩ := within' c hc
        obtain ⟨cs, rows'⟩ := within c cu
        refine ⟨cs, fun r hr => ?_⟩
        obtain ⟨r', hr', e'⟩ := rows r hr
        obtain ⟨r'', hr'', e''⟩ := rows' r' hr'
        exact ⟨r'', hr'', e''.trans e'⟩
      · rw [same g' e]; exact (others g' e).sameShape.within
  have keep : (u.group g).Within (u.group g) := fun c hc => ⟨hc, fun r hr => ⟨r, hr, rfl⟩⟩
  rcases u.afterLeaving_cases g with ⟨-, empty, leaves⟩ | ⟨isAborting, leaves⟩ | ⟨notAborting, holds, leaves⟩ <;> rw [leaves]
  · refine settle _ (fun g' other => State.completeDrain_group_of_ne other) (by simp) ?_
      (Group.within_of_unset (by rw [State.completeDrain_group_self]))
    exact Group.placed_of_drained (mine.params params) State.completeDrain_group_self empty
  · have isAborting : (s.group g).state = .aborting := mine.state ▸ isAborting
    have unset : (u.group g).cursor = none := mine.cursor.trans (unset (by simp [isAborting, GroupState.isStopped]))
    refine settle _ (fun g' other => State.group_modGroup_of_ne (h := other.symm) ..) rfl ?_ (by
      rw [State.group_modGroup_self]; exact Group.within_of_unset unset)
    obtain ⟨r, alone, -⟩ := aborting isAborting
    obtain rfl : rest = [] := by simpa [queue] using congrArg List.tail alone
    have queue : (u.group g).queue = [] := mine.queue
    have unset' : (s.group g).cursor = none := mine.cursor ▸ unset
    have noRows : (u.group g).rows = [] := (Group.rows_nil_of_instants mine.instants).mpr ((h.placed g).rows_of_unset unset')
    have noArmed : (u.group g).templates.armed = none := mine.armed.trans ((h.placed g).not_armed_of_unset unset')
    rw [State.group_modGroup_self]
    exact Group.placed_of_unset (mine.params params) unset noRows noArmed (fun _ => queue) nofun nofun (by simp [Group.queueLawful, queue])
  · refine settle u (fun _ _ => rfl) rfl ⟨mine.params params,
      Group.windowLawful_congr mine.depth mine.cursor mine.instants window, ?_, by rw [Group.queueLawful, mine.queue]; exact idleRest⟩ keep
    refine ⟨fun st => mine.cursor.trans (unset (mine.state ▸ st)), fun st => absurd (mine.state ▸ st) notStopped,
      fun st => absurd st notAborting, holds, ?_⟩
    rw [mine.armed, mine.cursor]; exact armed

/-- The window laws are kept by every move of a chain that leans on them. -/
theorem State.Move.keepsWindows {pieces windows room : Prop} (lean : windows) {s t : State} (move : State.Move pieces windows room s t)
    (h : s.WindowsLawful) : t.WindowsLawful := by
  have same : ∀ x : Group, x.Within x := fun x e he => ⟨he, fun r hr => ⟨r, hr, rfl⟩⟩
  cases move with
  | quiet quiet => exact quiet.keepsWindows h
  | port | release => exact h
  | @send g head rest queue idle miss =>
    obtain ⟨params, window, ⟨unset, stopped, aborting, _, armed⟩, tail⟩ := h.placed g
    refine State.windowsLawful_modGroup h _ ⟨params, window, ⟨unset, fun st => ?_, fun st => ?_, fun _ => by simp [Group.isEmpty], armed⟩,
      by simpa [Group.queueLawful, queue] using tail⟩ (same _)
    · simp [stopped st] at queue
    · obtain ⟨r, alone, sending⟩ := aborting st
      rw [alone] at queue
      cases queue
      rw [idle] at sending; cases sending
  | cursor may => exact State.windowsLawful_moveCursor h (may lean)
  | @close u g r reason opened set free placed =>
    have appended := State.windowsLawful_modGroup (g := g) h (fun x => { x with queue := x.queue ++ [s.recordOfRow g r reason] })
      ((h.placed g).append set rfl) (same _)
    have quietly := placed.keepsWindows appended
    have queue : (u.group g).queue ≠ [] := by
      rw [(placed.groups g).queue, State.group_modGroup_self]; simp
    have filtered := State.windowsLawful_modGroup (g := g) quietly (fun x => { x with rows := x.rows.filter fun y => y.instant != r.instant })
      ((quietly.placed g).filterRows queue _) fun e he => ⟨he, fun r' hr' => ⟨r', List.mem_of_mem_filter hr', rfl⟩⟩
    exact filtered
  | @emit g n set free => exact State.windowsLawful_modGroup h _ ((h.placed g).append set rfl) (same _)
  | @openRow g n i k gen rid rest free fresh running intake judged inWindow =>
    refine State.windowsLawful_iff.mpr ⟨fun g' => ?_, fun w e hw _ => by simp [intake] at hw⟩
    rw [State.group_modGroup]
    split
    · next e =>
      subst e
      exact (h.placed g).openRow (r := s.newRow g rid n gen) fresh (inWindow lean)
    · exact h.placed g'
  | @fillSlot g n i k gen r c cs free row absent judged =>
    have instants : ((s.group g).fillSlot n k c).rows.map Row.instant = (s.group g).rows.map Row.instant := by
      simp only [Group.fillSlot, List.map_map]
      exact List.map_congr_left fun y _ => by simp only [Function.comp]; split <;> rfl
    have shape : (s.group g).SameShape ((s.group g).fillSlot n k c) := ⟨rfl, id, rfl, rfl, instants, rfl, rfl⟩
    exact State.windowsLawful_modGroup (s := { s with freeCells := cs }) h _ ((h.placed g).congr shape) shape.within
  | leave queue sending removed => exact State.windowsLawful_leave h queue removed
  | expire g n =>
    have instants : ((s.group g).rows.map fun y => if y.instant = n then { y with expired := true } else y).map Row.instant =
        (s.group g).rows.map Row.instant := by
      rw [List.map_map]
      exact List.map_congr_left fun y _ => by simp only [Function.comp]; split <;> rfl
    have shape : (s.group g).SameShape { s.group g with
        rows := (s.group g).rows.map fun y => if y.instant = n then { y with expired := true } else y } :=
      ⟨rfl, id, rfl, rfl, instants, rfl, rfl⟩
    exact State.windowsLawful_modGroup h _ ((h.placed g).congr shape) shape.within
  | @start g stopped =>
    have unset := (h.placed g).cursor_of_stopped (Or.inl stopped)
    exact State.windowsLawful_modGroup h _ (Group.placed_of_unset (h.placed g).params rfl ((h.placed g).rows_of_unset unset)
      ((h.placed g).not_armed_of_unset unset) nofun nofun nofun (h.placed g).queue) (Group.within_of_unset rfl)
  | @rerun g draining =>
    obtain ⟨params, window, ⟨-, -, -, -, armed⟩, queue⟩ := h.placed g
    exact State.windowsLawful_modGroup h _ ⟨params, window, ⟨nofun, nofun, nofun, nofun, armed⟩, queue⟩ (same _)
  | @drain g running holds =>
    obtain ⟨params, window, ⟨-, -, -, -, armed⟩, queue⟩ := h.placed g
    exact State.windowsLawful_modGroup h _ ⟨params, window, ⟨nofun, nofun, nofun, fun _ => holds, armed⟩, queue⟩ (same _)
  | @stop g running empty =>
    exact State.windowsLawful_of_one h (fun g' other => State.completeDrain_group_of_ne other) (by simp)
      (Group.placed_of_drained (h.placed g).params State.completeDrain_group_self empty)
      (Group.within_of_unset (by rw [State.completeDrain_group_self]))
  | abort g =>
    refine State.windowsLawful_of_one h (fun g' other => State.abortGroup_group_of_ne other) (by simp) ?_
      (Group.within_of_unset (by rw [State.abortGroup_group_self]))
    rw [State.abortGroup_group_self]
    have kept := Group.kept_cases (h.placed g).queue
    refine Group.placed_of_unset (h.placed g).params rfl rfl (Templates.switched_armed _) (fun st => ?_) (fun st => ?_) ?_ ?_ <;>
      rcases kept with none | ⟨r, one, sending⟩ <;> simp_all [abortState, Group.queueLawful]
  | @params g y stopped lawful =>
    have unset := (h.placed g).cursor_of_stopped (by
      revert stopped; cases (s.group g).state <;> simp [GroupState.isActive, GroupState.isStopped])
    obtain ⟨params, -, state, queue⟩ := h.placed g
    have rows := (h.placed g).rows_of_unset unset
    refine State.windowsLawful_of_one (g := g) h (fun g' other => by rw [State.group_setGroup, if_neg other.symm]) rfl ?_ ?_ <;>
      rw [State.group_setGroup_self]
    · exact ⟨lawful params, ⟨fun _ => rows, fun e he => by rw [show (s.group g).cursor = some e from he] at unset; cases unset⟩, state, queue⟩
    · exact Group.within_of_unset unset
  | @editIdle g slots idle lawful =>
    have shape : (s.group g).SameShape { s.group g with templates := { (s.group g).templates with otherSlots := slots } } :=
      ⟨rfl, id, rfl, rfl, rfl, rfl, rfl⟩
    exact State.windowsLawful_modGroup h _ ((h.placed g).congr shape) shape.within
  | @commitNow g idle agrees unset =>
    obtain ⟨params, window, ⟨st, stopped, aborting, draining, -⟩, queue⟩ := h.placed g
    have mine : (s.commitNow g).group g =
        { s.group g with templates := (s.group g).templates.swap ((s.group g).templates.activeGen + 1) } := by
      simp [State.commitNow]
    refine State.windowsLawful_of_one (g := g) h (fun g' other => by simp [State.commitNow, State.group_modGroup_of_ne (h := other.symm)])
      (by simp) ?_ (by rw [mine]; exact Group.within_of_unset unset)
    rw [mine]
    exact ⟨params, window, ⟨st, stopped, aborting, draining, nofun⟩, queue⟩
  | @commitArmed g e n n' atMode idle agrees set due =>
    obtain ⟨params, window, ⟨st, stopped, aborting, draining, -⟩, queue⟩ := h.placed g
    have mine : (s.commitArmed g n).group g = { s.group g with
        templates := { (s.group g).templates with
          armed := some { generation := (s.group g).templates.activeGen + 1, switchAt := n } } } := by
      simp [State.commitArmed]
    refine State.windowsLawful_of_one (g := g) h (fun g' other => by simp [State.commitArmed, State.group_modGroup_of_ne (h := other.symm)])
      (by simp) ?_ (by rw [mine]; exact same _)
    rw [mine]
    refine ⟨params, window, ⟨st, stopped, aborting, draining, fun a armed => ⟨e, set, ?_⟩⟩, queue⟩
    cases armed
    exact (Group.before_of_switchInstant params due).1
  | @cancel g a armed unused =>
    obtain ⟨params, window, ⟨st, stopped, aborting, draining, -⟩, queue⟩ := h.placed g
    refine State.windowsLawful_of_one (g := g) h (fun g' other => State.cancelArmed_group_of_ne other) (by simp) ?_ ?_ <;>
      rw [State.cancelArmed_group_self]
    · exact ⟨params, window, ⟨st, stopped, aborting, draining, nofun⟩, queue⟩
    · exact same _
  | @hold w may =>
    refine ⟨h.1, fun w' e hw he => ?_⟩
    cases hw
    exact may lean e he
  | letGo => exact ⟨h.1, nofun⟩
  | powerOn | pinReset =>
    refine State.windowsLawful_iff.mpr ⟨fun g => ?_, nofun⟩
    simp only [State.powerOn_group, State.pinReset_group]
    exact Group.placed_of_unset (by simp [Group.paramsLawful, Group.initial]) rfl rfl rfl (fun _ => rfl) nofun nofun nofun
  | softReset =>
    refine State.windowsLawful_iff.mpr ⟨fun g => ?_, nofun⟩
    rw [State.softReset_group]
    exact Group.placed_of_unset (h.placed g).params rfl rfl (Templates.switched_armed _) (fun _ => rfl) nofun nofun nofun

end

end Sys2Proof.Machine
end


section
/-! The law on rows (R59), kept by every move. -/

namespace Sys2Proof.Machine

-- One after another, as in the tests: many proofs checked at once would each hold a thread.
set_option Elab.async false

/-- A row is the only one of its instant, so that the others are those of other instants. -/
theorem perm_filter_instant {rows : List Row} (nodup : (rows.map Row.instant).Nodup) {r : Row} (mem : r ∈ rows) :
    (r :: rows.filter fun y => y.instant != r.instant).Perm rows := by
  induction rows with
  | nil => cases mem
  | cons x xs ih =>
    obtain ⟨first, nodup⟩ := List.nodup_cons.mp nodup
    rcases List.mem_cons.mp mem with rfl | mem
    · have rest : xs.filter (fun y => y.instant != r.instant) = xs :=
        List.filter_eq_self.mpr fun y hy => by
          simpa using fun same : y.instant = r.instant => first (same ▸ List.mem_map_of_mem hy)
      simp [rest]
    · have keep : x.instant ≠ r.instant := fun same => first (same ▸ List.mem_map_of_mem mem)
      rw [List.filter_cons_of_pos (by simpa using keep)]
      exact (List.Perm.swap x r _).trans ((ih nodup mem).cons x)

theorem State.freeRowList_freeRows (s : State) (rs : List RowId) : (s.freeRowList rs).freeRows = s.freeRows ++ rs := rfl

section
variable {s t : State} {g : GroupId}

/-- A change of one group keeps the law on rows where it moves rows between that group and the free list alone. -/
theorem State.rowsLawful_of_one (h : s.rowsLawful) (others : ∀ g', g' ≠ g → (t.group g').rows = (s.group g').rows)
    (perm : (t.freeRows ++ (t.group g).rows.map Row.rowId).Perm (s.freeRows ++ (s.group g).rows.map Row.rowId))
    (nodup : ((t.group g).rows.map Row.instant).Nodup) : t.rowsLawful := by
  refine ⟨List.Perm.trans ?_ h.1, fun g' => ?_⟩
  · simp only [List.perm_iff_count, List.count_append, State.openRowIds] at perm ⊢
    intro a
    have := perm a
    rcases GroupId.eq_zero_or_one g with rfl | rfl
    · rw [others 1 (by decide)]; omega
    · rw [others 0 (by decide)]; omega
  · by_cases same : g' = g
    · subst same; exact nodup
    · rw [others g' same]; exact h.2 g'

/-- Rows that keep their number and their instant keep the law. -/
theorem State.rowsLawful_of_same (h : s.rowsLawful) (free : t.freeRows = s.freeRows)
    (ids : ∀ g, (t.group g).rows.map Row.rowId = (s.group g).rows.map Row.rowId)
    (instants : ∀ g, (t.group g).rows.map Row.instant = (s.group g).rows.map Row.instant) : t.rowsLawful := by
  simp only [State.rowsLawful, State.openRowIds, free, ids, instants]
  exact h

theorem State.rowsLawful_of_rows (h : s.rowsLawful) (free : t.freeRows = s.freeRows) (rows : ∀ g, (t.group g).rows = (s.group g).rows) :
    t.rowsLawful :=
  State.rowsLawful_of_same h free (fun g => by rw [rows]) fun g => by rw [rows]

theorem State.rowsLawful_modGroup (h : s.rowsLawful) {f : Group → Group} (rows : (f (s.group g)).rows = (s.group g).rows) :
    (s.modGroup g f).rowsLawful :=
  State.rowsLawful_of_rows h rfl fun g' => by
    rw [State.group_modGroup]; split
    · next e => subst e; exact rows
    · rfl

theorem State.Quiet.keepsRows (quiet : s.Quiet t) (h : s.rowsLawful) : t.rowsLawful :=
  State.rowsLawful_of_rows h quiet.freeRows fun g => (quiet.groups g).rows

theorem State.completeDrain_rows (s : State) (g g' : GroupId) : ((s.completeDrain g).group g').rows = (s.group g').rows := by
  by_cases same : g' = g
  · subst same; rw [State.completeDrain_group_self]
  · rw [State.completeDrain_group_of_ne same]

theorem State.afterLeaving_rows (s : State) (g g' : GroupId) : ((s.afterLeaving g).group g').rows = (s.group g').rows := by
  rcases s.afterLeaving_cases g with ⟨-, -, leaves⟩ | ⟨-, leaves⟩ | ⟨-, -, leaves⟩ <;> rw [leaves]
  · exact s.completeDrain_rows g g'
  · rw [State.group_modGroup]; split
    · next e => subst e; rfl
    · rfl

/-- The law on rows where every row is free (R59). -/
theorem State.rowsLawful_of_free (free : t.freeRows = List.finRange 96) (rows : ∀ g, (t.group g).rows = []) : t.rowsLawful := by
  simp [State.rowsLawful, State.openRowIds, free, rows]

end

/-- The law on rows is kept by every move, whatever its chain leans on. -/
theorem State.Move.keepsRows {pieces windows room : Prop} {s t : State} (move : State.Move pieces windows room s t) (h : s.rowsLawful) :
    t.rowsLawful := by
  cases move with
  | quiet quiet => exact quiet.keepsRows h
  | port | release => exact h
  | send | emit | start | rerun | drain | editIdle => exact State.rowsLawful_modGroup h rfl
  | @cursor g n may =>
    refine State.rowsLawful_of_rows h (by simp) fun g' => ?_
    by_cases same : g' = g
    · subst same; rw [State.moveCursor_group_self]
    · rw [State.moveCursor_group_of_ne same]
  | @close u g r reason opened set free placed =>
    have hu : u.rowsLawful := placed.keepsRows (State.rowsLawful_modGroup h rfl)
    have rows : (u.group g).rows = (s.group g).rows := by rw [(placed.groups g).rows, State.group_modGroup_self]
    have split := perm_filter_instant (hu.2 g) (rows ▸ opened : r ∈ (u.group g).rows)
    refine State.rowsLawful_of_one (g := g) hu (fun g' other => ?_) ?_ ?_
    · simp [State.group_modGroup_of_ne (h := other.symm)]
    · simp only [State.freeRowList_group, State.group_modGroup_self, State.freeRowList_freeRows, State.modGroup_freeRows,
        List.append_assoc, List.singleton_append]
      exact (split.map Row.rowId).append_left _
    · simp only [State.freeRowList_group, State.group_modGroup_self]
      exact (hu.2 g).sublist (List.filter_sublist.map _)
  | @openRow g n i k gen rid rest free fresh running intake judged inWindow =>
    have inserted := insertRow_perm ((s.group g).cursor.getD n) (s.newRow g rid n gen) (s.group g).rows
    refine State.rowsLawful_of_one (g := g) h (fun g' other => ?_) ?_ ?_
    · rw [State.group_modGroup_of_ne (h := other.symm)]; rfl
    · rw [State.group_modGroup_self, free]
      refine ((inserted.map Row.rowId).append_left rest).trans ?_
      exact List.perm_middle
    · rw [State.group_modGroup_self]
      refine (inserted.map Row.instant).nodup_iff.mpr (List.nodup_cons.mpr ⟨fun mem => ?_, h.2 g⟩)
      obtain ⟨x, hx, same⟩ := List.mem_map.mp mem
      exact Group.rowAt_eq_none_iff.mp fresh x hx same
  | @fillSlot g n i k gen r c cs free row absent judged =>
    refine State.rowsLawful_of_same h rfl (fun g' => ?_) fun g' => ?_ <;>
    · rw [State.group_modGroup]; split
      · next e =>
        subst e
        simp only [Group.fillSlot, List.map_map]
        exact List.map_congr_left fun y _ => by simp only [Function.comp]; split <;> rfl
      · rfl
  | @leave u g head rest queue sending removed =>
    refine State.rowsLawful_of_rows h (by simp [removed.freeRows]) fun g' => ?_
    rw [State.afterLeaving_rows, (removed.groups g').rows]
    by_cases same : g' = g
    · subst same; rw [State.removeHead_group_self]
    · rw [State.removeHead_group_of_ne s same]
  | expire g n =>
    refine State.rowsLawful_of_same h rfl (fun g' => ?_) fun g' => ?_ <;>
    · rw [State.group_modGroup]; split
      · next e =>
        subst e
        simp only [List.map_map]
        exact List.map_congr_left fun y _ => by simp only [Function.comp]; split <;> rfl
      · rfl
  | @stop g running empty => exact State.rowsLawful_of_rows h (by simp) (s.completeDrain_rows g)
  | abort g =>
    refine State.rowsLawful_of_one (g := g) h (fun g' other => by rw [State.abortGroup_group_of_ne other]) ?_ ?_ <;>
      rw [State.abortGroup_group_self]
    · simp [State.abortGroup_freeRows]
    · exact List.nodup_nil
  | @params g y stopped lawful =>
    refine State.rowsLawful_of_rows h rfl fun g' => ?_
    rw [State.group_setGroup]; split
    · next e => subst e; rfl
    · rfl
  | @commitNow g =>
    refine State.rowsLawful_of_rows h (by simp) fun g' => ?_
    simp only [State.commitNow, State.unbindUnnamed_frame, State.group_modGroup]; split
    · next e => subst e; simp
    · simp
  | @commitArmed g =>
    refine State.rowsLawful_of_rows h (by simp) fun g' => ?_
    simp only [State.commitArmed, State.group_modGroup]; split
    · next e => subst e; simp
    · simp
  | @cancel g =>
    refine State.rowsLawful_of_rows h (by simp) fun g' => ?_
    by_cases same : g' = g
    · subst same; rw [State.cancelArmed_group_self]
    · rw [State.cancelArmed_group_of_ne same]
  | hold | letGo => exact h
  | powerOn | pinReset =>
    exact State.rowsLawful_of_free rfl fun g => by simp only [State.powerOn_group, State.pinReset_group]; rfl
  | softReset => exact State.rowsLawful_of_free rfl fun g => by rw [State.softReset_group]; rfl

end Sys2Proof.Machine
end


section
/-! The law on bindings (R22, R23, R42), kept by every move. -/

namespace Sys2Proof.Machine

-- One after another, as in the tests: many proofs checked at once would each hold a thread.
set_option Elab.async false

theorem namesStream_eq_true {slots : List Slot} {i : StreamId} : namesStream slots i = true ↔ ∃ x ∈ slots, x.stream = i := by
  simp [namesStream]

/-- A stream appears in a group's ACTIVE or ARMED bank, as the model asks it and as the law does (R23). -/
theorem Templates.names_iff {t : Templates} {i : StreamId} :
    t.names i = true ↔ (∃ x ∈ t.activeSlots, x.stream = i) ∨ (t.armed ≠ none ∧ ∃ x ∈ t.otherSlots, x.stream = i) := by
  simp [Templates.names, namesStream_eq_true, Option.isSome_iff_ne_none]

theorem State.bindingsLawful_iff {s : State} :
    s.bindingsLawful ↔ ∀ i g, (s.stream i).group = some g ↔ (s.group g).templates.names i = true := by
  simp only [State.bindingsLawful, Templates.names_iff]

/-! ### What commits make of the stream table (R22, R23, R48, R49) -/

/-- A stream of the IDLE list that is in neither the ACTIVE nor the ARMED bank is newly present in a commit (R22). -/
def Templates.newlyNames (t : Templates) (i : StreamId) : Bool := namesStream t.otherSlots i && !t.names i

section
variable {s : State} {g : GroupId} {i : StreamId}

theorem State.bindNew_stream :
    (s.bindNew g (s.group g).templates.otherSlots).stream i =
      if (s.group g).templates.newlyNames i then (s.stream i).bind g else s.stream i := by
  simp [State.bindNew, Templates.newlyNames]

theorem State.commitArmed_stream {n : Instant} :
    (s.commitArmed g n).stream i = if (s.group g).templates.newlyNames i then (s.stream i).bind g else s.stream i := by
  rw [State.commitArmed, State.modGroup_stream, State.bindNew_stream]

theorem State.commitNow_stream :
    (s.commitNow g).stream i =
      if (s.group g).templates.newlyNames i then (s.stream i).bind g
      else if (s.stream i).group = some g ∧ namesStream (s.group g).templates.otherSlots i = false then (s.stream i).unbind
      else s.stream i := by
  have names : ((s.group g).templates.swap ((s.group g).templates.activeGen + 1)).names i =
      namesStream (s.group g).templates.otherSlots i := by simp [Templates.names, Templates.swap]
  rw [State.commitNow, State.unbindUnnamed, State.stream_mapStreams, State.modGroup_stream, State.group_modGroup_self,
    State.bindNew_stream, (s.bindNew_frame g _).2.2.2.2.2.2.2.2.2.2.2.2.2.2.2.2.2.2.2.2.1, names]
  by_cases new : (s.group g).templates.newlyNames i = true
  · have named : namesStream (s.group g).templates.otherSlots i = true := (Bool.and_eq_true _ _ ▸ new : _ ∧ _).1
    simp [new, named]
  · simp [new]

theorem State.commitNow_group_self :
    (s.commitNow g).group g =
      { s.group g with templates := (s.group g).templates.swap ((s.group g).templates.activeGen + 1) } := by
  simp [State.commitNow]

theorem State.commitNow_group_of_ne {g' : GroupId} (h : g' ≠ g) : (s.commitNow g).group g' = s.group g' := by
  simp [State.commitNow, State.group_modGroup_of_ne (h := h.symm)]

theorem State.commitArmed_group_self {n : Instant} :
    (s.commitArmed g n).group g = { s.group g with
      templates := { (s.group g).templates with
        armed := some { generation := (s.group g).templates.activeGen + 1, switchAt := n } } } := by
  simp [State.commitArmed]

theorem State.commitArmed_group_of_ne {n : Instant} {g' : GroupId} (h : g' ≠ g) : (s.commitArmed g n).group g' = s.group g' := by
  simp [State.commitArmed, State.group_modGroup_of_ne (h := h.symm)]

/-- A commit without CONFLICT binds no stream that is bound to the other group (R47). -/
theorem State.bound_of_agrees (agrees : s.commitConflict g (s.group g).templates.otherSlots = false)
    (new : (s.group g).templates.newlyNames i = true) : (s.stream i).group = none ∨ (s.stream i).group = some g := by
  obtain ⟨named, -⟩ := (Bool.and_eq_true _ _ ▸ new : _ ∧ _)
  obtain ⟨x, hx, rfl⟩ := namesStream_eq_true.mp named
  have free := List.any_eq_false.mp agrees x hx
  cases bound : (s.stream x.stream).group with
  | none => exact Or.inl rfl
  | some g' => simp [bound] at free; simp [free]

end

/-! ### The law -/

section
variable {s t : State} {g : GroupId}

theorem State.bindingsLawful_of_same (h : s.bindingsLawful) (bound : ∀ i, (t.stream i).group = (s.stream i).group)
    (names : ∀ g i, (t.group g).templates.names i = (s.group g).templates.names i) : t.bindingsLawful := by
  rw [State.bindingsLawful_iff] at *
  simp only [bound, names]
  exact h

theorem State.bindingsLawful_modGroup (h : s.bindingsLawful) {f : Group → Group}
    (names : ∀ i, (f (s.group g)).templates.names i = (s.group g).templates.names i) : (s.modGroup g f).bindingsLawful :=
  State.bindingsLawful_of_same h (fun _ => rfl) fun g' i => by
    rw [State.group_modGroup]; split
    · next e => subst e; exact names i
    · rfl

theorem State.Quiet.keepsBindings (quiet : s.Quiet t) (h : s.bindingsLawful) : t.bindingsLawful :=
  State.bindingsLawful_of_same h quiet.bound fun g i => by rw [(quiet.groups g).templates]

/-- One group's bindings change, and no stream of the other group's banks changes its group. -/
theorem State.bindingsLawful_of_one (h : s.bindingsLawful)
    (others : ∀ g', g' ≠ g → (t.group g').templates = (s.group g').templates)
    (mine : ∀ i, (t.stream i).group = some g ↔ (t.group g).templates.names i = true)
    (theirs : ∀ i g', g' ≠ g → ((t.stream i).group = some g' ↔ (s.stream i).group = some g')) : t.bindingsLawful := by
  rw [State.bindingsLawful_iff] at *
  intro i g'
  by_cases same : g' = g
  · subst same; exact mine i
  · rw [others g' same, theirs i g' same]; exact h i g'

/-- A switch of one group, if a bank is ARMED, keeps the law (R23, R51). -/
theorem State.bindingsLawful_of_switch (h : s.bindingsLawful)
    (others : ∀ g', g' ≠ g → (t.group g').templates = (s.group g').templates)
    (switched : (t.group g).templates = (s.group g).templates.switched)
    (bound : ∀ i, (t.stream i).group = if s.switchUnbinds g i = true then none else (s.stream i).group) : t.bindingsLawful := by
  have law := State.bindingsLawful_iff.mp h
  refine State.bindingsLawful_of_one h others (fun i => ?_) fun i g' other => ?_
  · rw [bound, switched]
    cases armed : (s.group g).templates.armed with
    | none =>
      rw [Templates.switched_of_not_armed armed, if_neg (by simp [State.switchUnbinds_iff, armed])]
      exact law i g
    | some a =>
      have unbinds : s.switchUnbinds g i = true ↔
          (s.stream i).group = some g ∧ namesStream (s.group g).templates.otherSlots i = false := by
        simp [State.switchUnbinds_iff, armed, namesStream_eq_false]
      have named : namesStream (s.group g).templates.otherSlots i = true → (s.stream i).group = some g := fun named =>
        (law i g).mpr (by simp [Templates.names, armed, named])
      rw [Templates.switched_of_armed armed]
      simp only [Templates.names, Templates.swap, Option.isSome_none, Bool.false_and, Bool.or_false]
      cases listed : namesStream (s.group g).templates.otherSlots i with
      | true => rw [if_neg (by simp [unbinds, listed])]; simp [named listed]
      | false => split <;> simp_all
  · rw [bound]
    split
    · next unbinds =>
      have := (State.switchUnbinds_iff.mp unbinds).2.1
      simp [this, other.symm]
    · rfl

theorem State.bindingsLawful_takeSwitch (h : s.bindingsLawful) (g : GroupId) : (s.takeSwitch g).bindingsLawful :=
  State.bindingsLawful_of_switch h (fun g' other => by rw [State.takeSwitch_group_of_ne other]) (by rw [State.takeSwitch_group_self])
    fun i => by rw [State.takeSwitch_stream]; split <;> rfl

theorem State.bindingsLawful_completeDrain (h : s.bindingsLawful) (g : GroupId) : (s.completeDrain g).bindingsLawful :=
  State.bindingsLawful_of_switch h (fun g' other => by rw [State.completeDrain_group_of_ne other])
    (by rw [State.completeDrain_group_self]) fun i => by rw [State.completeDrain_stream]; split <;> rfl

/-- No stream is bound and no list names one: so at each reset of the whole part. -/
theorem State.bindingsLawful_of_initial (streams : ∀ i, t.stream i = Stream.initial) (groups : ∀ g, t.group g = Group.initial) :
    t.bindingsLawful := by
  intro i g
  simp [streams, groups, Stream.initial, Group.initial, Templates.initial]

end

/-- The law on bindings is kept by every move, whatever its chain leans on. -/
theorem State.Move.keepsBindings {pieces windows room : Prop} {s t : State} (move : State.Move pieces windows room s t) (h : s.bindingsLawful) :
    t.bindingsLawful := by
  have law := State.bindingsLawful_iff.mp h
  cases move with
  | quiet quiet => exact quiet.keepsBindings h
  | port | release => exact h
  | send | emit | openRow | fillSlot | expire | start | rerun | drain =>
    exact State.bindingsLawful_modGroup (by exact h) fun _ => rfl
  | @cursor g n may =>
    rw [State.moveCursor_eq]
    split
    · exact State.bindingsLawful_takeSwitch (State.bindingsLawful_modGroup h fun _ => rfl) g
    · exact State.bindingsLawful_modGroup h fun _ => rfl
  | @close u g r reason opened set free placed =>
    have appended : (s.modGroup g fun x => { x with queue := x.queue ++ [s.recordOfRow g r reason] }).bindingsLawful :=
      State.bindingsLawful_modGroup h fun _ => rfl
    have released : (u.modGroup g fun x => { x with rows := x.rows.filter fun y => y.instant != r.instant }).bindingsLawful :=
      State.bindingsLawful_modGroup (placed.keepsBindings appended) fun _ => rfl
    exact released
  | @leave u g head rest queue sending removed =>
    have removedLaw : (s.removeHead g head rest).bindingsLawful :=
      (State.quiet_dropRefs _ _).keepsBindings (State.bindingsLawful_modGroup (by exact h) fun _ => rfl)
    have hu := removed.keepsBindings removedLaw
    rcases u.afterLeaving_cases g with ⟨-, -, leaves⟩ | ⟨-, leaves⟩ | ⟨-, -, leaves⟩ <;> rw [leaves]
    · exact State.bindingsLawful_completeDrain hu g
    · exact State.bindingsLawful_modGroup hu fun _ => rfl
    · exact hu
  | @stop g running empty => exact State.bindingsLawful_completeDrain h g
  | abort g =>
    refine State.bindingsLawful_of_switch (g := g) h (fun g' other => by rw [State.abortGroup_group_of_ne other])
      (by rw [State.abortGroup_group_self]) fun i => ?_
    rw [State.abortGroup_stream]
    by_cases bound : (s.stream i).group = some g
    · simp only [bound, if_true]; split <;> simp [Stream.unbind, Stream.restart, bound]
    · rw [if_neg bound, if_neg fun unbinds => bound (State.switchUnbinds_iff.mp unbinds).2.1]
  | @params g y stopped lawful =>
    refine State.bindingsLawful_of_same h (fun _ => rfl) fun g' i => ?_
    rw [State.group_setGroup]; split
    · next e => subst e; rfl
    · rfl
  | @editIdle g slots idle lawful =>
    exact State.bindingsLawful_modGroup h fun i => by simp [Templates.names, idle]
  | @commitNow g idle agrees unset =>
    refine State.bindingsLawful_of_one (g := g) h (fun g' other => by rw [State.commitNow_group_of_ne other]) (fun i => ?_)
      fun i g' other => ?_ <;> rw [State.commitNow_stream]
    · have names : (((s.commitNow g).group g).templates).names i = namesStream (s.group g).templates.otherSlots i := by
        rw [State.commitNow_group_self]; simp [Templates.names, Templates.swap]
      rw [names]
      have active := law i g
      rw [Templates.names_of_not_armed idle] at active
      simp only [Templates.newlyNames, Templates.names_of_not_armed idle]
      cases listed : namesStream (s.group g).templates.otherSlots i <;> cases held : namesStream (s.group g).templates.activeSlots i <;>
        simp_all [Stream.bind, Stream.unbind]
    · split
      · next new =>
        rcases State.bound_of_agrees agrees new with free | mine <;> simp [Stream.bind, *, other.symm]
      · split
        · next mine => simp [Stream.unbind, mine.1, other.symm]
        · rfl
  | @commitArmed g e n n' atMode idle agrees set due =>
    refine State.bindingsLawful_of_one (g := g) h (fun g' other => by rw [State.commitArmed_group_of_ne other]) (fun i => ?_)
      fun i g' other => ?_ <;> rw [State.commitArmed_stream]
    · have names : (((s.commitArmed g n).group g).templates).names i =
          (namesStream (s.group g).templates.activeSlots i || namesStream (s.group g).templates.otherSlots i) := by
        rw [State.commitArmed_group_self]; simp [Templates.names]
      rw [names]
      have active := law i g
      rw [Templates.names_of_not_armed idle] at active
      simp only [Templates.newlyNames, Templates.names_of_not_armed idle]
      cases listed : namesStream (s.group g).templates.otherSlots i <;> cases held : namesStream (s.group g).templates.activeSlots i <;>
        simp_all [Stream.bind]
    · split
      · next new =>
        rcases State.bound_of_agrees agrees new with free | mine <;> simp [Stream.bind, *, other.symm]
      · rfl
  | @cancel g a armed unused =>
    refine State.bindingsLawful_of_one (g := g) h (fun g' other => by rw [State.cancelArmed_group_of_ne other]) (fun i => ?_)
      fun i g' other => ?_ <;> rw [State.cancelArmed_stream]
    · have names : (((s.cancelArmed g).group g).templates).names i = namesStream (s.group g).templates.activeSlots i := by
        rw [State.cancelArmed_group_self]; simp [Templates.names]
      have bound := law i g
      simp only [names, ← namesStream_eq_false]
      simp only [Templates.names, armed, Option.isSome_some, Bool.true_and] at bound
      cases held : namesStream (s.group g).templates.activeSlots i with
      | true => simp [bound, held]
      | false => split <;> simp_all [Stream.unbind]
    · split
      · next mine => simp [Stream.unbind, mine.1, other.symm]
      · rfl
  | hold | letGo => exact h
  | powerOn => exact State.bindingsLawful_of_initial s.powerOn_stream s.powerOn_group
  | pinReset => exact State.bindingsLawful_of_initial s.pinReset_stream s.pinReset_group
  | softReset =>
    have switched : s.takeSwitches.bindingsLawful := State.bindingsLawful_takeSwitch (State.bindingsLawful_takeSwitch h 0) 1
    refine State.bindingsLawful_of_same switched (fun i => by rw [State.softReset_stream]; rfl) fun g i => ?_
    rw [State.softReset_group, State.takeSwitches_group]; rfl

end Sys2Proof.Machine
end


section
/-! The laws on each piece of the part (R2 to R168), kept by every move; and by the release of a reset pin, which finds every link DOWN
(R153). -/

namespace Sys2Proof.Machine

-- One after another, as in the tests: many proofs checked at once would each hold a thread.
set_option Elab.async false

/-! ### Ports after a reset (R2, R117, R153) -/

theorem NodePort.atReset_lawful (x : NodePort) : x.atReset.Lawful :=
  ⟨by simp [NodePort.atReset, NodePort.initial], fun _ => rfl, fun _ => rfl, fun n => absurd rfl n, Nat.zero_le _, nofun, Nat.zero_le _,
    nofun, countersLawful_zero 7⟩

/-- A port in DOWN that looks at its line enters ALIGNING, or records whether there is signal (R3, R153). -/
theorem NodePort.Lawful.lookAtLine {x : NodePort} (h : x.Lawful) (down : x.link = .down) : x.lookAtLine.Lawful := by
  obtain ⟨h1, h2, h3, -, h5, h6, h7, h8, h9⟩ := h
  unfold NodePort.lookAtLine
  split
  · next c =>
    exact ⟨h1, fun _ => h2 (by simp [down]), h3, fun _ => ⟨c.2, rfl⟩, Nat.zero_le _, fun _ => Nat.zero_lt_succ _, h7, nofun, h9⟩
  · exact ⟨h1, h2, h3, fun n => absurd down n, h5, h6, h7, h8, h9⟩

theorem Trunk.atReset_lawful (x : Trunk) (k : Nat) : (x.atReset k).Lawful := by
  rw [Trunk.atReset_eq]
  exact ⟨Nat.zero_le _, Nat.zero_le _, Nat.zero_le _, Nat.zero_le _, Nat.zero_le _, nofun, Nat.zero_le _, nofun,
    fun _ => ⟨rfl, rfl, rfl, rfl, rfl, rfl, rfl⟩, countersLawful_zero 6⟩

theorem Trunk.atSoftReset_lawful (x : Trunk) (k : Nat) : (x.atSoftReset k).Lawful := x.atReset_lawful k

theorem Trunk.Lawful.lookAtLine {x : Trunk} (h : x.Lawful) (down : x.link = .down) : x.lookAtLine.Lawful := by
  unfold Trunk.lookAtLine
  split
  · exact h.startAligning (by simp [down]) x.line
  · exact h

theorem Stream.initial_lawful : Stream.initial.Lawful :=
  ⟨by decide, by decide, by decide, by decide, by decide, by decide, Nat.zero_le _, by decide, by decide, nofun, nofun,
    countersLawful_zero 12⟩

/-! ### Banks (R39, R42, R51) -/

theorem slotsLawful_nil : slotsLawful [] := ⟨by decide, nofun, List.nodup_nil⟩

theorem Templates.initial_lawful : Templates.initial.Lawful := ⟨slotsLawful_nil, slotsLawful_nil, nofun⟩

theorem Templates.Lawful.swap {t : Templates} (h : t.Lawful) (gen : Generation) : (t.swap gen).Lawful := ⟨h.2.1, h.1, nofun⟩

theorem Templates.Lawful.switched {t : Templates} (h : t.Lawful) : t.switched.Lawful := by
  cases armed : t.armed with
  | none => rw [Templates.switched_of_not_armed armed]; exact h
  | some a => rw [Templates.switched_of_armed armed]; exact h.swap _

/-! ### The pieces -/

/-- The laws on one group that the pieces' law names. -/
structure Group.PieceLawful (x : Group) : Prop where
  templates : x.templates.Lawful
  params : x.paramsLawful
  lateRun : x.lateRun ≤ 64
  counters : countersLawful x.counters

/-- The laws of each piece by itself, but for the one on a part that a reset pin holds. -/
structure State.PiecesSound (s : State) : Prop where
  nodes : ∀ p, (s.node p).Lawful
  trunks : ∀ p, (s.trunk p).Lawful
  streams : ∀ i, (s.stream i).Lawful
  groups : ∀ g, (s.group g).PieceLawful
  log : s.log.Lawful
  softCount : s.softCount ≤ 255

/-- A part that a reset pin holds has every link DOWN (R153). -/
def State.HeldDown (s : State) : Prop := s.hold ≠ .none → (∀ p, (s.node p).link = .down) ∧ ∀ p, (s.trunk p).link = .down

theorem State.piecesLawful_iff {s : State} : s.PiecesLawful ↔ s.PiecesSound ∧ s.HeldDown :=
  ⟨fun ⟨a, b, c, d, e, f, k⟩ => ⟨⟨a, b, c, fun g => ⟨(d g).1, (d g).2.1, (d g).2.2.1, (d g).2.2.2⟩, e, f⟩, k⟩,
    fun ⟨⟨a, b, c, d, e, f⟩, k⟩ => ⟨a, b, c, fun g => ⟨(d g).1, (d g).2, (d g).3, (d g).4⟩, e, f, k⟩⟩

section
variable {s t : State} {g : GroupId}

theorem State.Quiet.keepsPieces (quiet : s.Quiet t) (h : s.PiecesSound) : t.PiecesSound where
  nodes p := quiet.nodes p (h.nodes p)
  trunks p := quiet.trunks p (h.trunks p)
  streams i := quiet.streams i (h.streams i)
  groups g := by
    have q := quiet.groups g
    exact ⟨q.templates ▸ (h.groups g).templates, q.paramsLawful.mpr (h.groups g).params, q.lateRun (h.groups g).lateRun,
      q.counters (h.groups g).counters⟩
  log := quiet.log h.log
  softCount := quiet.softCount ▸ h.softCount

theorem State.piecesSound_modGroup (h : s.PiecesSound) {f : Group → Group}
    (lawful : (s.group g).PieceLawful → (f (s.group g)).PieceLawful) : (s.modGroup g f).PiecesSound where
  __ := h
  groups g' := by
    rw [State.group_modGroup]; split
    · next e => subst e; exact lawful (h.groups g)
    · exact h.groups g'

/-- A change of the groups and of the stream table keeps the laws where it keeps those of each group and stream. -/
theorem State.piecesSound_of_tables (h : s.PiecesSound) (frame : t = { s with
      groups := t.groups, streams := t.streams, freeRows := t.freeRows, freeCells := t.freeCells })
    (groups : ∀ g, (t.group g).PieceLawful) (streams : ∀ i, (t.stream i).Lawful) : t.PiecesSound where
  nodes p := by rw [frame]; exact h.nodes p
  trunks p := by rw [frame]; exact h.trunks p
  streams := streams
  groups := groups
  log := by rw [frame]; exact h.log
  softCount := by rw [frame]; exact h.softCount

theorem Stream.Lawful.ite_unbind {x : Stream} (h : x.Lawful) (c : Prop) [Decidable c] : (if c then x.unbind else x).Lawful := by
  split
  · exact h.unbind
  · exact h

theorem Group.PieceLawful.ite {x : Group} (h : x.PieceLawful) {y : Group} (hy : y.PieceLawful) {p q : GroupId} :
    (if p = q then y else x).PieceLawful := by
  split
  · exact hy
  · exact h

theorem State.piecesSound_completeDrain (h : s.PiecesSound) (g : GroupId) : (s.completeDrain g).PiecesSound := by
  refine State.piecesSound_of_tables h (by rw [State.completeDrain_eq]) (fun g' => ?_) fun i => ?_
  · by_cases same : g' = g
    · subst same
      rw [State.completeDrain_group_self]
      exact ⟨(h.groups g').templates.switched, (h.groups g').params, Nat.zero_le _, (h.groups g').counters⟩
    · rw [State.completeDrain_group_of_ne same]; exact h.groups g'
  · rw [State.completeDrain_stream]; exact (h.streams i).ite_unbind _

theorem State.piecesSound_takeSwitches (h : s.PiecesSound) : s.takeSwitches.PiecesSound := by
  refine State.piecesSound_of_tables h ?_ (fun g => ?_) fun i => ?_
  · apply State.ext_fields <;> simp [State.takeSwitches]
  · rw [State.takeSwitches_group]
    exact ⟨(h.groups g).templates.switched, (h.groups g).params, (h.groups g).lateRun, (h.groups g).counters⟩
  · rw [State.takeSwitches_stream]; exact (h.streams i).ite_unbind _

/-- A power-on reset leaves every piece at a lawful value, and a pin reset, which keeps the log and the soft reset count (R153). -/
theorem State.powerOn_piecesSound (s : State) : s.powerOn.PiecesSound where
  nodes p := by simpa [State.powerOn, State.node] using NodePort.atReset_lawful _
  trunks p := by simpa [State.powerOn, State.trunk] using Trunk.atReset_lawful _ _
  streams i := by rw [State.powerOn_stream]; exact Stream.initial_lawful
  groups g := by
    rw [State.powerOn_group]
    exact ⟨Templates.initial_lawful, by simp [Group.paramsLawful, Group.initial], Nat.zero_le _, countersLawful_zero 12⟩
  log := ⟨Nat.zero_le _, nofun, Nat.zero_le _, rfl⟩
  softCount := Nat.zero_le _

theorem State.piecesSound_pinReset (h : s.PiecesSound) : s.pinReset.PiecesSound where
  __ := s.powerOn_piecesSound
  log := h.log
  softCount := h.softCount

theorem State.softReset_node (s : State) (p : NodeId) : s.softReset.node p = (s.node p).atReset.lookAtLine := by
  rw [State.softReset, State.lookAtLines_node]
  simp [State.node]

theorem State.softReset_trunk (s : State) (p : TrunkId) : s.softReset.trunk p = ((s.trunk p).atSoftReset (s.bytesOut p)).lookAtLine := by
  rw [State.softReset, State.lookAtLines_trunk]
  simp [State.trunk, State.bytesOut]

theorem State.piecesSound_softReset (h : s.PiecesSound) : s.softReset.PiecesSound where
  nodes p := by rw [State.softReset_node]; exact (NodePort.atReset_lawful _).lookAtLine rfl
  trunks p := by rw [State.softReset_trunk]; exact (Trunk.atSoftReset_lawful _ _).lookAtLine rfl
  streams i := by rw [State.softReset_stream]; exact ((State.piecesSound_takeSwitches h).streams i).atSoftReset
  groups g := by
    rw [State.softReset_group]
    exact ⟨(h.groups g).templates.switched, (h.groups g).params, Nat.zero_le _, countersLawful_zero 12⟩
  log := by simpa [State.softReset, State.lookAtLines] using h.log
  softCount := by simp [State.softReset, State.lookAtLines]

/-- The release of a reset pin finds every link DOWN, and each port looks at its line (R153). -/
theorem State.piecesSound_release (h : s.PiecesSound) (down : (∀ p, (s.node p).link = .down) ∧ ∀ p, (s.trunk p).link = .down) :
    s.release.PiecesSound where
  __ := h
  nodes p := by rw [State.release, State.lookAtLines_node]; exact (h.nodes p).lookAtLine (down.1 p)
  trunks p := by rw [State.release, State.lookAtLines_trunk]; exact (h.trunks p).lookAtLine (down.2 p)

end

/-- The laws on the pieces are kept by every move of a chain that leans on them. -/
theorem State.Move.keepsPieces {pieces windows room : Prop} (lean : pieces) {s t : State} (move : State.Move pieces windows room s t) (h : s.PiecesSound) :
    t.PiecesSound := by
  cases move with
  | quiet quiet => exact quiet.keepsPieces h
  | port lawful => exact (State.quiet_modTrunk _ (lawful lean)).keepsPieces h
  | send | emit | expire | rerun | drain => exact State.piecesSound_modGroup h fun ⟨a, b, c, d⟩ => ⟨a, b, c, d⟩
  | @openRow g n _ _ gen rid rest =>
    have taken : ({ s with freeRows := rest } : State).PiecesSound := ⟨h.1, h.2, h.3, h.4, h.5, h.6⟩
    exact State.piecesSound_modGroup taken fun ⟨a, b, c, d⟩ => ⟨a, b, c, d⟩
  | @fillSlot g n _ k _ _ c cs =>
    have taken : ({ s with freeCells := cs } : State).PiecesSound := ⟨h.1, h.2, h.3, h.4, h.5, h.6⟩
    exact State.piecesSound_modGroup taken fun ⟨a, b, c, d⟩ => ⟨a, b, c, d⟩
  | start => exact State.piecesSound_modGroup h fun ⟨a, b, _, d⟩ => ⟨a, b, Nat.zero_le _, d⟩
  | @cursor g n may =>
    refine State.piecesSound_of_tables h (by rw [State.moveCursor_pieces]) (fun g' => ?_) fun i => ?_
    · by_cases same : g' = g
      · subst same
        rw [State.moveCursor_group_self]
        refine ⟨?_, (h.groups g').params, (h.groups g').lateRun, (h.groups g').counters⟩
        simp only
        split
        · exact (h.groups g').templates.switched
        · exact (h.groups g').templates
      · rw [State.moveCursor_group_of_ne same]; exact h.groups g'
    · rw [State.moveCursor_stream]; exact (h.streams i).ite_unbind _
  | @close u g r reason opened set free placed =>
    have appended : (s.modGroup g fun x => { x with queue := x.queue ++ [s.recordOfRow g r reason] }).PiecesSound :=
      State.piecesSound_modGroup h fun ⟨a, b, c, d⟩ => ⟨a, b, c, d⟩
    have released : (u.modGroup g fun x => { x with rows := x.rows.filter fun y => y.instant != r.instant }).PiecesSound :=
      State.piecesSound_modGroup (placed.keepsPieces appended) fun ⟨a, b, c, d⟩ => ⟨a, b, c, d⟩
    exact ⟨released.1, released.2, released.3, released.4, released.5, released.6⟩
  | @leave u g head rest queue sending removed =>
    have freed : (s.freeCellList (realCells head.entries)).PiecesSound := ⟨h.1, h.2, h.3, h.4, h.5, h.6⟩
    have shortened : ((s.freeCellList (realCells head.entries)).modGroup g fun x => { x with queue := rest }).PiecesSound :=
      State.piecesSound_modGroup freed fun ⟨a, b, c, d⟩ => ⟨a, b, c, d⟩
    have hu := removed.keepsPieces ((State.quiet_dropRefs _ _).keepsPieces shortened)
    rcases u.afterLeaving_cases g with ⟨-, -, leaves⟩ | ⟨-, leaves⟩ | ⟨-, -, leaves⟩ <;> rw [leaves]
    · exact State.piecesSound_completeDrain hu g
    · exact State.piecesSound_modGroup hu fun ⟨a, b, c, d⟩ => ⟨a, b, c, d⟩
    · exact hu
  | @stop g running empty => exact State.piecesSound_completeDrain h g
  | abort g =>
    refine State.piecesSound_of_tables h (by rw [State.abortGroup_eq]) (fun g' => ?_) fun i => ?_
    · by_cases same : g' = g
      · subst same
        rw [State.abortGroup_group_self]
        exact ⟨(h.groups g').templates.switched, (h.groups g').params, Nat.zero_le _, countersLawful_raise (h.groups g').counters _ _⟩
      · rw [State.abortGroup_group_of_ne same]; exact h.groups g'
    · rw [State.abortGroup_stream]
      refine Stream.Lawful.with_refs ?_ _
      split
      · next bound =>
        split
        · exact (h.streams i).unbind
        · exact (h.streams i).restart (by simp [bound])
      · exact h.streams i
  | @params g y stopped lawful =>
    have hg := h.groups g
    exact { h with
      groups := fun g' => by
        rw [State.group_setGroup]
        exact (h.groups g').ite (y := (s.group g).withParamsOf y) ⟨hg.templates, lawful hg.params, hg.lateRun, hg.counters⟩ }
  | @editIdle g slots idle lawful =>
    refine State.piecesSound_modGroup h fun ⟨a, b, c, d⟩ => ⟨⟨a.1, lawful a, fun x armed => ?_⟩, b, c, d⟩
    rw [show (s.group g).templates.armed = some x from armed] at idle; cases idle
  | @commitNow g idle agrees unset =>
    refine State.piecesSound_of_tables h (by apply State.ext_fields <;> simp) (fun g' => ?_) fun i => ?_
    · by_cases same : g' = g
      · subst same
        rw [State.commitNow_group_self]
        exact ⟨(h.groups g').templates.swap _, (h.groups g').params, (h.groups g').lateRun, (h.groups g').counters⟩
      · rw [State.commitNow_group_of_ne same]; exact h.groups g'
    · rw [State.commitNow_stream]
      split
      · exact (h.streams i).bind g
      · exact (h.streams i).ite_unbind _
  | @commitArmed g e n n' atMode idle agrees set due =>
    refine State.piecesSound_of_tables h (by apply State.ext_fields <;> simp) (fun g' => ?_) fun i => ?_
    · by_cases same : g' = g
      · subst same
        rw [State.commitArmed_group_self]
        have hg := h.groups g'
        exact ⟨⟨hg.templates.1, hg.templates.2.1, fun a armed => by cases armed; rfl⟩, hg.params, hg.lateRun, hg.counters⟩
      · rw [State.commitArmed_group_of_ne same]; exact h.groups g'
    · rw [State.commitArmed_stream]
      split
      · exact (h.streams i).bind g
      · exact h.streams i
  | @cancel g a armed unused =>
    refine State.piecesSound_of_tables h (by rw [State.cancelArmed_eq]) (fun g' => ?_) fun i => ?_
    · by_cases same : g' = g
      · subst same
        rw [State.cancelArmed_group_self]
        have hg := h.groups g'
        exact ⟨⟨hg.templates.1, hg.templates.2.1, nofun⟩, hg.params, hg.lateRun, hg.counters⟩
      · rw [State.cancelArmed_group_of_ne same]; exact h.groups g'
    · rw [State.cancelArmed_stream]; exact (h.streams i).ite_unbind _
  | hold | letGo => exact ⟨h.1, h.2, h.3, h.4, h.5, h.6⟩
  | powerOn => exact s.powerOn_piecesSound
  | pinReset => exact State.piecesSound_pinReset h
  | softReset => exact State.piecesSound_softReset h
  | release down => exact State.piecesSound_release h (down lean)

end Sys2Proof.Machine
end


section
/-! The laws on banks, open rows and cells (R60, R61, R66), kept by every move of a chain that leans on the window laws. -/

namespace Sys2Proof.Machine

-- One after another, as in the tests: many proofs checked at once would each hold a thread.
set_option Elab.async false

/-! ### Governing banks (R39, R41, R60) -/

theorem Templates.governing_of_not_armed {t : Templates} (h : t.armed = none) (n : Instant) :
    t.governing n = (t.activeGen, t.activeSlots) := by simp only [Templates.governing, h]

theorem Templates.governing_of_reached {t : Templates} {a : Armed} (h : t.armed = some a) {n : Instant}
    (reached : atOrAfter n a.switchAt = true) : t.governing n = (a.generation, t.otherSlots) := by
  simp only [Templates.governing, h, reached, if_true]

theorem Templates.governing_of_short {t : Templates} {a : Armed} (h : t.armed = some a) {n : Instant}
    (short : atOrAfter n a.switchAt = false) : t.governing n = (t.activeGen, t.activeSlots) := by
  simp [Templates.governing, h, short]

/-- The two generations of a group differ, so that a generation that governs names its own list (R39, R60). -/
theorem Templates.slotsOf_of_governing {t : Templates} (h : t.Lawful) {n : Instant} {gen : Generation} {slots : List Slot}
    (governs : t.governing n = (gen, slots)) : t.slotsOf gen = slots := by
  cases armed : t.armed with
  | none =>
    rw [Templates.governing_of_not_armed armed] at governs
    cases governs
    simp [Templates.slotsOf, armed]
  | some a =>
    have next : a.generation = t.activeGen + 1 := h.2.2 a armed
    have differ : a.generation ≠ t.activeGen := by rw [next]; bv_omega
    cases reached : atOrAfter n a.switchAt with
    | true =>
      rw [Templates.governing_of_reached armed reached] at governs
      cases governs
      simp [Templates.slotsOf, armed]
    | false =>
      rw [Templates.governing_of_short armed reached] at governs
      cases governs
      simp [Templates.slotsOf, armed, differ]

theorem findSlot_eq_some {slots : List Slot} {i : StreamId} {x : Slot} {k : Nat} (h : findSlot slots i = some (x, k)) :
    slots[k]? = some x := by
  have mem := List.mem_of_find?_eq_some h
  simpa [List.mem_zipIdx_iff_getElem?] using mem

/-- Step 6 finds a slot of the governing bank that is due (R66). -/
theorem Group.judgeSlot_eq_found {x : Group} {n : Instant} {i : StreamId} {k : Nat} {gen : Generation}
    (h : x.judgeSlot n i = .found k gen) :
    ∃ slots y, x.templates.governing n = (gen, slots) ∧ slots[k]? = some y ∧ y.due n = true := by
  unfold Group.judgeSlot at h
  cases found : findSlot (x.templates.governing n).2 i with
  | none => simp [found] at h
  | some y =>
    obtain ⟨y, k'⟩ := y
    cases due : y.due n with
    | false => simp [found, due] at h
    | true =>
      simp only [found, due, if_true, SlotVerdict.found.injEq] at h
      obtain ⟨rfl, rfl⟩ := h
      exact ⟨(x.templates.governing n).2, y, rfl, findSlot_eq_some found, due⟩

/-! ### Cells of a row and of a record (R60, R61, R88) -/

theorem filterMap_range_getElem? {α : Type} (m : List (Option α)) :
    (List.range m.length).filterMap (fun k => (m[k]?).join) = m.filterMap fun x => x := by
  induction m with
  | nil => rfl
  | cons x xs ih =>
    rw [List.length_cons, List.range_succ_eq_map, List.filterMap_cons, List.filterMap_map]
    cases x <;> simpa [Function.comp_def] using ih

/-- The REAL entries of a record hold the cells of the slot map it is made from, where that map holds cells in due slots alone. -/
theorem State.realCells_entriesFor (s : State) {slots : List Slot} {n : Instant} {m : List (Option CellId)}
    (length : m.length = slots.length)
    (due : ∀ (k : Nat) (c : CellId), m[k]? = some (some c) → ∃ y : Slot, slots[k]? = some y ∧ y.due n = true) :
    realCells (s.entriesFor slots n m) = m.filterMap fun x => x := by
  have places : ∀ x ∈ slots.zipIdx, (if x.1.due n then (m[x.2]?).join else none) = (m[x.2]?).join := fun x hx => by
    cases held : (m[x.2]?).join with
    | none => simp
    | some c =>
      obtain ⟨y, hy, isDue⟩ := due x.2 c (Option.join_eq_some_iff.mp held)
      have : slots[x.2]? = some x.1 := by simpa [List.mem_zipIdx_iff_getElem?] using hx
      rw [this] at hy; cases hy
      simp [isDue]
  calc realCells (s.entriesFor slots n m)
      = (dueSlots slots n).filterMap fun x => (m[x.2]?).join := by
        rw [realCells, State.entriesFor, List.filterMap_map]
        refine List.filterMap_congr fun x _ => ?_
        cases held : (m[x.2]?).join <;> simp [State.entryOf, held]
    _ = slots.zipIdx.filterMap fun x => (m[x.2]?).join := by
        rw [dueSlots, List.filterMap_filter]
        exact List.filterMap_congr places
    _ = (slots.zipIdx.map Prod.snd).filterMap fun k => (m[k]?).join := by rw [List.filterMap_map]; rfl
    _ = m.filterMap fun x => x := by
        rw [List.zipIdx_map_snd, ← List.range_eq_range', ← length, filterMap_range_getElem?]

theorem State.realCells_emptyRecord (s : State) (g : GroupId) (n : Instant) : realCells (s.emptyRecord g n).entries = [] := by
  simp [realCells, State.emptyRecord, State.entriesFor, State.entryOf, List.filterMap_eq_nil_iff]

/-- A cell put into an empty place of a slot map joins the cells of the map (R75). -/
theorem cells_set_perm {m : List (Option CellId)} {k : Nat} (inside : k < m.length) (absent : (m[k]?).join = none) (c : CellId) :
    ((m.set k (some c)).filterMap fun x => x).Perm (c :: m.filterMap fun x => x) := by
  induction m generalizing k with
  | nil => simp at inside
  | cons x xs ih =>
    cases k with
    | zero =>
      obtain rfl : x = none := by simpa using absent
      simp
    | succ k =>
      have rest := ih (k := k) (by simpa using inside) (by simpa using absent)
      rw [List.set_cons_succ]
      cases x with
      | none => simpa using rest
      | some d =>
        simp only [List.filterMap_cons]
        exact (rest.cons d).trans (List.Perm.swap c d _)

/-! ### One group -/

/-- The laws on one group's banks and open rows. -/
structure Group.Banked (x : Group) : Prop where
  templates : x.templates.Lawful
  rows : ∀ r ∈ x.rows, x.rowLawful r

theorem State.banksLawful_iff {s : State} : s.BanksLawful ↔ ∀ g, (s.group g).Banked :=
  forall_congr' fun _ => ⟨fun ⟨a, b⟩ => ⟨a, b⟩, fun ⟨a, b⟩ => ⟨a, b⟩⟩

theorem Group.banked_of_no_rows {x : Group} (templates : x.templates.Lawful) (rows : x.rows = []) : x.Banked :=
  ⟨templates, fun r hr => by simp [rows] at hr⟩

section
variable {x y : Group}

theorem Group.Banked.of_rows (h : x.Banked) (templates : y.templates = x.templates) (rows : ∀ r ∈ y.rows, r ∈ x.rows) : y.Banked :=
  ⟨templates ▸ h.templates, fun r hr => by rw [Group.rowLawful, templates]; exact h.rows r (rows r hr)⟩

/-- Rows stay lawful under banks that govern their instants as before. -/
theorem Group.Banked.of_governing (h : x.Banked) (templates : y.templates.Lawful) (rows : y.rows = x.rows)
    (governs : ∀ r ∈ x.rows, x.rowLawful r → y.templates.governing r.instant = x.templates.governing r.instant) : y.Banked :=
  ⟨templates, fun r hr => by
    rw [rows] at hr
    rw [Group.rowLawful, governs r hr (h.rows r hr)]; exact h.rows r hr⟩

/-- The cells of an open row that becomes a record are those of the record's REAL entries (R60, R88). -/
theorem Group.Banked.realCells_record {s : State} {g : GroupId} (h : (s.group g).Banked) {r : Row} (open_ : r ∈ (s.group g).rows)
    (reason : CloseReason) : realCells (s.recordOfRow g r reason).entries = r.cellList := by
  obtain ⟨slots, governs, length, due⟩ := h.rows r open_
  rw [State.recordOfRow, Templates.slotsOf_of_governing h.templates governs]
  exact s.realCells_entriesFor length due

/-- A row opens under the generation that governs its instant (R74). -/
theorem Group.Banked.openRow {s : State} {g : GroupId} (h : (s.group g).Banked) {n : Instant} {i : StreamId} {k : Nat}
    {gen : Generation} (judged : (s.group g).judgeSlot n i = .found k gen) (rid : RowId) (e : Instant) :
    ({ s.group g with rows := insertRow e (s.newRow g rid n gen) (s.group g).rows } : Group).Banked := by
  obtain ⟨slots, y, governs, -, -⟩ := Group.judgeSlot_eq_found judged
  refine ⟨h.templates, fun r hr => ?_⟩
  rcases mem_insertRow.mp hr with rfl | hr
  · refine ⟨slots, governs, ?_, fun k c held => ?_⟩
    · simp [State.newRow, Templates.slotsOf_of_governing h.templates governs]
    · simp [State.newRow, List.getElem?_replicate] at held
  · exact h.rows r hr

/-- The row that takes a cell has a place for the message's slot. -/
theorem Group.Banked.inside (h : x.Banked) {n : Instant} {i : StreamId} {k : Nat} {gen : Generation}
    (judged : x.judgeSlot n i = .found k gen) {r : Row} (open_ : r ∈ x.rows) (same : r.instant = n) : k < r.slotMap.length := by
  obtain ⟨slots, y, governs, slot, -⟩ := Group.judgeSlot_eq_found judged
  obtain ⟨slots', governs', length, -⟩ := h.rows r open_
  rw [same, governs] at governs'
  cases governs'
  rw [length]
  exact (List.getElem?_eq_some_iff.mp slot).1

/-- A cell goes into a slot that is due (R66, R75). -/
theorem Group.Banked.fillSlot (h : x.Banked) {n : Instant} {i : StreamId} {k : Nat} {gen : Generation}
    (judged : x.judgeSlot n i = .found k gen) (c : CellId) : (x.fillSlot n k c).Banked := by
  obtain ⟨slots, y, governs, slot, isDue⟩ := Group.judgeSlot_eq_found judged
  refine ⟨h.templates, fun r filled => ?_⟩
  obtain ⟨r, hr, rfl⟩ := List.mem_map.mp filled
  obtain ⟨slots', governs', length, due⟩ := h.rows r hr
  split
  · next same =>
    refine ⟨slots', governs', by simpa using length, fun j d held => ?_⟩
    rw [same, governs] at governs'
    cases governs'
    by_cases mine : k = j
    · subst mine; exact ⟨y, slot, same ▸ isDue⟩
    · exact due j d (by simpa [List.getElem?_set_ne mine] using held)
  · exact ⟨slots', governs', length, due⟩

/-- A cell put into a row's empty place joins the cells that the group's rows hold. -/
theorem Group.fillSlot_cells_perm {n : Instant} {k : Nat} {r : Row} {c : CellId} (nodup : (x.rows.map Row.instant).Nodup)
    (row : x.rowAt n = some r) (inside : k < r.slotMap.length) (absent : (r.slotMap[k]?).join = none) :
    ((x.fillSlot n k c).rows.flatMap Row.cellList).Perm (c :: x.rows.flatMap Row.cellList) := by
  obtain ⟨open_, same⟩ := Group.rowAt_eq_some row
  have split := perm_filter_instant nodup open_
  have others : (x.rows.filter fun y => y.instant != r.instant).map
      (fun y => if y.instant = n then { y with slotMap := y.slotMap.set k (some c) } else y) =
        x.rows.filter fun y => y.instant != r.instant := by
    conv_rhs => rw [← List.map_id (x.rows.filter _)]
    refine List.map_congr_left fun y hy => ?_
    have : y.instant ≠ r.instant := by simpa using (List.mem_filter.mp hy).2
    rw [if_neg (same ▸ this), id]
  have filled := (split.symm.map fun y : Row => if y.instant = n then { y with slotMap := y.slotMap.set k (some c) } else y).flatMap_right
    Row.cellList
  rw [List.map_cons, others, if_pos same, List.flatMap_cons] at filled
  refine filled.trans (((cells_set_perm inside absent c).append_right _).trans ?_)
  exact List.Perm.cons c (split.flatMap_right Row.cellList)

/-- Only a switch at S itself finds rows open, and then S is at or before each of them (R41, R51). -/
theorem Group.Banked.moveCursor {s : State} {g : GroupId} {n : Instant} (h : (s.group g).Banked) (placed : (s.group g).Placed)
    (may : s.MayMoveTo g n) :
    ({ s.group g with
      cursor := some n
      templates := if (s.group g).switchesAt n then (s.group g).templates.switched else (s.group g).templates } : Group).Banked := by
  by_cases switches : (s.group g).switchesAt n = true
  · obtain ⟨e, a, cursor, armed, ahead, reached⟩ := Group.switchesAt_iff.mp switches
    refine h.of_governing (by simpa only [switches, if_true] using h.templates.switched) rfl fun r open_ _ => ?_
    have near : distance e n ≤ distance e a.switchAt := by
      by_contra beyond
      have none := may.switch e a cursor armed (by omega)
      rw [none] at open_; cases open_
    have passed := may.rows e cursor r open_
    have low := placed.near cursor open_
    have high := placed.params.2.1
    have atS := (atOrAfter_iff_distance ahead (may.ahead e cursor)).mp reached
    have rowReached : atOrAfter r.instant a.switchAt = true := (atOrAfter_iff_distance ahead (by omega)).mpr (by omega)
    rw [if_pos switches, Templates.governing_of_reached armed rowReached, Templates.switched_of_armed armed,
      Templates.governing_of_not_armed rfl]
    rfl
  · exact h.of_governing (by simpa [switches] using h.templates) rfl fun r _ _ => by simp [switches]

/-- S of a commit lies beyond every open row (R49). -/
theorem Group.Banked.arm {e n n' : Instant} {atMode : Bool} (h : x.Banked) (placed : x.Placed) (idle : x.templates.armed = none)
    (set : x.cursor = some e) (due : x.switchInstant e atMode n' = some n) :
    ({ x with templates := { x.templates with armed := some { generation := x.templates.activeGen + 1, switchAt := n } } } : Group).Banked := by
  refine h.of_governing ⟨h.templates.1, h.templates.2.1, fun a armed => by cases armed; rfl⟩ rfl fun r open_ _ => ?_
  obtain ⟨ahead, beyond⟩ := Group.before_of_switchInstant placed.params due
  have near := placed.near set open_
  have high := placed.params.2.1
  have short : atOrAfter r.instant n = false := by
    rw [Bool.eq_false_iff, ne_eq, atOrAfter_iff_distance ahead (by omega)]; omega
  rw [Templates.governing_of_short (a := { generation := x.templates.activeGen + 1, switchAt := n }) rfl short,
    Templates.governing_of_not_armed idle]

/-- A cancelled bank governs no open row (R54, R60). -/
theorem Group.Banked.disarm {a : Armed} (h : x.Banked) (armed : x.templates.armed = some a)
    (unused : (x.rows.any fun r => r.generation == a.generation) = false) :
    ({ x with templates := { x.templates with armed := none } } : Group).Banked := by
  refine h.of_governing ⟨h.templates.1, h.templates.2.1, nofun⟩ rfl fun r open_ lawful => ?_
  obtain ⟨slots, governs, -, -⟩ := lawful
  have other : r.generation ≠ a.generation := by simpa using List.any_eq_false.mp unused r open_
  rw [Templates.governing_of_not_armed rfl]
  cases reached : atOrAfter r.instant a.switchAt with
  | true =>
    rw [Templates.governing_of_reached armed reached] at governs
    exact absurd (Prod.mk.inj governs).1.symm other
  | false => rw [Templates.governing_of_short armed reached]

end

end Sys2Proof.Machine
end


section
/-! The laws on banks, open rows and cells of the whole part (R60, R61), and the bound of the frame queues (R97), kept by every move. -/

namespace Sys2Proof.Machine

-- One after another, as in the tests: many proofs checked at once would each hold a thread.
set_option Elab.async false

/-- The laws on banks, open rows and cells (R60, R61, R66). -/
structure State.Stored (s : State) : Prop where
  banked : ∀ g, (s.group g).Banked
  cells : s.cellsLawful

section
variable {s t : State} {g : GroupId}

/-- One group's rows and records change, and cells move between it and the free list alone. -/
theorem State.stored_of_one (h : s.Stored) (others : ∀ g', g' ≠ g → t.group g' = s.group g') (banked : (t.group g).Banked)
    (perm : (t.freeCells ++ (t.group g).heldCells).Perm (s.freeCells ++ (s.group g).heldCells)) : t.Stored := by
  refine ⟨fun g' => ?_, List.Perm.trans ?_ h.cells⟩
  · by_cases same : g' = g
    · subst same; exact banked
    · rw [others g' same]; exact h.banked g'
  · simp only [List.perm_iff_count, List.count_append] at perm ⊢
    intro a
    have := perm a
    rcases GroupId.eq_zero_or_one g with rfl | rfl
    · rw [others 1 (by decide)]; omega
    · rw [others 0 (by decide)]; omega

theorem State.stored_modGroup (h : s.Stored) {f : Group → Group} (banked : (f (s.group g)).Banked)
    (held : (f (s.group g)).heldCells = (s.group g).heldCells) : (s.modGroup g f).Stored :=
  State.stored_of_one h (fun g' other => State.group_modGroup_of_ne (h := other.symm) ..) (by simpa using banked) (by simp [held])

theorem State.stored_of_same (h : s.Stored) (free : t.freeCells = s.freeCells) (rows : ∀ g, (t.group g).rows = (s.group g).rows)
    (queue : ∀ g, (t.group g).queue = (s.group g).queue) (templates : ∀ g, (t.group g).templates = (s.group g).templates) : t.Stored := by
  refine ⟨fun g => (h.banked g).of_rows (templates g) fun r hr => rows g ▸ hr, ?_⟩
  simp only [State.cellsLawful, Group.heldCells, free, rows, queue]
  exact h.cells

theorem State.Quiet.keepsStored (quiet : s.Quiet t) (h : s.Stored) : t.Stored :=
  State.stored_of_same h quiet.freeCells (fun g => (quiet.groups g).rows) (fun g => (quiet.groups g).queue)
    fun g => (quiet.groups g).templates

/-- A part all of whose cells are free. -/
theorem State.stored_of_free (free : t.freeCells = List.finRange 1024) (templates : ∀ g, (t.group g).templates.Lawful)
    (rows : ∀ g, (t.group g).rows = []) (queue : ∀ g, (t.group g).queue = []) : t.Stored :=
  ⟨fun g => Group.banked_of_no_rows (templates g) (rows g), by simp [State.cellsLawful, Group.heldCells, free, rows, queue]⟩

/-- An empty group completes its drain (R108). -/
theorem State.stored_completeDrain (h : s.Stored) (empty : (s.group g).isEmpty = true) : (s.completeDrain g).Stored := by
  obtain ⟨rows, queue⟩ := Group.isEmpty_iff.mp empty
  refine State.stored_of_one (g := g) h (fun g' other => State.completeDrain_group_of_ne other) ?_ ?_ <;>
    rw [State.completeDrain_group_self]
  · exact Group.banked_of_no_rows (h.banked g).templates.switched rows
  · simp [Group.heldCells, rows, queue]

/-- The cells of a row that closes become those of its record (R61, R86). -/
theorem State.stored_close {u : State} {r : Row} {reason : CloseReason} (h : s.Stored) (w : (s.group g).Placed)
    (opened : r ∈ (s.group g).rows) (nodup : ((s.group g).rows.map Row.instant).Nodup)
    (placed : (s.modGroup g fun x => { x with queue := x.queue ++ [s.recordOfRow g r reason] }).Quiet u) :
    ((u.modGroup g fun x => { x with rows := x.rows.filter fun y => y.instant != r.instant }).freeRowList [r.rowId]).Stored := by
  have rows : (u.group g).rows = (s.group g).rows := by rw [(placed.groups g).rows, State.group_modGroup_self]
  have queue : (u.group g).queue = (s.group g).queue ++ [s.recordOfRow g r reason] := by
    rw [(placed.groups g).queue, State.group_modGroup_self]
  have templates : (u.group g).templates = (s.group g).templates := by rw [(placed.groups g).templates, State.group_modGroup_self]
  have others : ∀ g', g' ≠ g → (s.group g').Quiet (u.group g') := fun g' other => by
    have := placed.groups g'
    rwa [State.group_modGroup_of_ne (h := other.symm)] at this
  have split := (perm_filter_instant nodup opened).flatMap_right Row.cellList
  rw [List.flatMap_cons] at split
  refine ⟨fun g' => ?_, List.Perm.trans ?_ h.cells⟩
  · by_cases same : g' = g
    · subst same
      rw [State.freeRowList_group, State.group_modGroup_self]
      exact (h.banked g').of_rows templates fun y hy => rows ▸ List.mem_of_mem_filter hy
    · rw [State.freeRowList_group, State.group_modGroup_of_ne (h := Ne.symm same)]
      exact (h.banked g').of_rows (others g' same).templates fun y hy => (others g' same).rows ▸ hy
  · have mine : (({ u.group g with rows := (u.group g).rows.filter fun y => y.instant != r.instant } : Group).heldCells).Perm
        (s.group g).heldCells := by
      simp only [Group.heldCells, rows, queue, List.flatMap_append, List.flatMap_singleton, (h.banked g).realCells_record opened]
      refine List.Perm.trans ?_ (split.append_right _)
      simp only [List.perm_iff_count, List.count_append]
      intro a; omega
    have theirs : ∀ g', g' ≠ g → (u.group g').heldCells = (s.group g').heldCells := fun g' other => by
      simp only [Group.heldCells, (others g' other).rows, (others g' other).queue]
    have free : u.freeCells = s.freeCells := by simp [placed.freeCells]
    rcases GroupId.eq_zero_or_one g with rfl | rfl
    · simp only [State.freeRowList_freeCells, State.modGroup_freeCells, State.freeRowList_group, State.group_modGroup_self,
        State.group_modGroup_of_ne (h := (by decide : (0 : GroupId) ≠ 1)), theirs 1 (by decide), free]
      exact (mine.append_left _).append_right _
    · simp only [State.freeRowList_freeCells, State.modGroup_freeCells, State.freeRowList_group, State.group_modGroup_self,
        State.group_modGroup_of_ne (h := (by decide : (1 : GroupId) ≠ 0)), theirs 0 (by decide), free]
      exact mine.append_left _

/-- The cells of a record that leaves its queue join the free list (R61, R132, R133). -/
theorem State.stored_leave {u : State} {head : FrameRecord} {rest : List FrameRecord} (h : s.Stored)
    (queue : (s.group g).queue = head :: rest) (removed : (s.removeHead g head rest).Quiet u) : (u.afterLeaving g).Stored := by
  have freed : (s.removeHead g head rest).Stored := by
    refine State.stored_of_one (g := g) h (fun g' other => State.removeHead_group_of_ne s other head rest) ?_ ?_ <;>
      rw [State.removeHead_group_self]
    · exact (h.banked g).of_rows rfl fun r hr => hr
    · have cells : (s.removeHead g head rest).freeCells = s.freeCells ++ realCells head.entries := by
        simp [State.removeHead, State.freeCellList]
      simp only [cells, Group.heldCells, queue, List.flatMap_cons, List.perm_iff_count, List.count_append]
      intro a; omega
  have hu := removed.keepsStored freed
  rcases u.afterLeaving_cases g with ⟨-, empty, leaves⟩ | ⟨-, leaves⟩ | ⟨-, -, leaves⟩ <;> rw [leaves]
  · exact State.stored_completeDrain hu empty
  · exact State.stored_modGroup hu ((hu.banked g).of_rows rfl fun r hr => hr) rfl
  · exact hu

/-- The cells of the rows and records that an abort releases join the free list (R61, R110). -/
theorem State.stored_abort (h : s.Stored) (g : GroupId) : (s.abortGroup g).Stored := by
  refine State.stored_of_one (g := g) h (fun g' other => State.abortGroup_group_of_ne other) ?_ ?_ <;>
    rw [State.abortGroup_group_self]
  · exact Group.banked_of_no_rows (h.banked g).templates.switched rfl
  · have split : ((s.group g).queue.flatMap fun r => realCells r.entries).Perm
        (((s.group g).discardable ++ (s.group g).kept).flatMap fun r => realCells r.entries) := by
      refine List.Perm.flatMap_right _ (List.Perm.symm ?_)
      refine List.perm_append_comm.trans ?_
      simpa [Group.kept, Group.discardable] using List.filter_append_perm (fun r : FrameRecord => r.inTransmission) (s.group g).queue
    simp only [State.abortGroup_freeCells, Group.heldCells, List.flatMap_nil, List.nil_append]
    refine List.Perm.trans ?_ ((split.append_left _).append_left _).symm
    simp only [List.flatMap_append, List.append_assoc, List.Perm.refl]

end

/-- Rows in instant order stand for different instants. -/
theorem Group.Placed.instants_nodup {x : Group} (h : x.Placed) : (x.rows.map Row.instant).Nodup := by
  obtain ⟨unset, rows⟩ := Group.windowLawful_iff.mp h.window
  cases cursor : x.cursor with
  | none => simp [unset cursor]
  | some e =>
    rw [List.nodup_iff_pairwise_ne, List.pairwise_map]
    exact (rows e cursor).2.imp fun {r r'} lt same => by rw [same] at lt; exact lt_irrefl _ lt

/-- The laws on banks, open rows and cells are kept by every move of a chain that leans on the window laws. -/
theorem State.Move.keepsStored {pieces windows room : Prop} (lean : windows) {s t : State} (move : State.Move pieces windows room s t)
    (w : s.WindowsLawful) (h : s.Stored) : t.Stored := by
  have same : ∀ g {y : Group}, y.templates = (s.group g).templates → y.rows = (s.group g).rows → y.Banked := fun g y templates rows =>
    (h.banked g).of_rows templates fun r hr => rows ▸ hr
  cases move with
  | quiet quiet => exact quiet.keepsStored h
  | port | release => exact ⟨h.banked, h.cells⟩
  | @send g head rest queue idle miss =>
    exact State.stored_modGroup h (same g rfl rfl) (by simp [Group.heldCells, queue])
  | @emit g n set free =>
    exact State.stored_modGroup h (same g rfl rfl) (by simp [Group.heldCells, State.realCells_emptyRecord])
  | start | rerun | drain => exact State.stored_modGroup h (same _ rfl rfl) rfl
  | @cursor g n may =>
    refine State.stored_of_one (g := g) h (fun g' other => State.moveCursor_group_of_ne other) ?_ ?_ <;>
      rw [State.moveCursor_group_self]
    · exact (h.banked g).moveCursor (w.placed g) (may lean)
    · simp [Group.heldCells]
  | @close u g r reason opened set free placed =>
    exact State.stored_close h (w.placed g) opened (w.placed g).instants_nodup placed
  | @openRow g n i k gen rid rest free fresh running intake judged inWindow =>
    refine State.stored_of_one (g := g) h (fun g' other => State.group_modGroup_of_ne (h := other.symm) ..) ?_ ?_ <;>
      rw [State.group_modGroup_self]
    · exact (h.banked g).openRow judged rid _
    · have inserted := (insertRow_perm ((s.group g).cursor.getD n) (s.newRow g rid n gen) (s.group g).rows).flatMap_right Row.cellList
      have none : (s.newRow g rid n gen).cellList = [] := by simp [State.newRow, Row.cellList]
      rw [List.flatMap_cons, none, List.nil_append] at inserted
      exact (inserted.append_right _).append_left _
  | @fillSlot g n i k gen r c cs free row absent judged =>
    obtain ⟨open_, instant⟩ := Group.rowAt_eq_some row
    have inside := (h.banked g).inside judged open_ instant
    refine State.stored_of_one (g := g) h (fun g' other => State.group_modGroup_of_ne (h := other.symm) ..) ?_ ?_ <;>
      rw [State.group_modGroup_self]
    · exact (h.banked g).fillSlot judged c
    · have filled := Group.fillSlot_cells_perm (w.placed g).instants_nodup row inside absent (c := c)
      rw [free]
      refine ((filled.append_right _).append_left cs).trans ?_
      exact List.perm_middle
  | leave queue sending removed => exact State.stored_leave h queue removed
  | expire g n =>
    refine State.stored_modGroup h ⟨(h.banked g).templates, fun r expired => ?_⟩ ?_
    · obtain ⟨r, hr, rfl⟩ := List.mem_map.mp expired
      have := (h.banked g).rows r hr
      split <;> exact this
    · simp only [Group.heldCells, List.flatMap_map]
      congr 1
      exact List.flatMap_congr fun r _ => by split <;> rfl
  | @stop g running empty => exact State.stored_completeDrain h empty
  | abort g => exact State.stored_abort h g
  | @params g y stopped lawful =>
    refine State.stored_of_same h rfl (fun g' => ?_) (fun g' => ?_) (fun g' => ?_) <;>
    · rw [State.group_setGroup]; split
      · next e => subst e; rfl
      · rfl
  | @editIdle g slots idle lawful =>
    have banks := (h.banked g).templates
    refine State.stored_modGroup h ((h.banked g).of_governing ⟨banks.1, lawful banks, fun a armed => ?_⟩ rfl fun r _ _ => ?_) rfl
    · rw [show (s.group g).templates.armed = some a from armed] at idle; cases idle
    · simp [Templates.governing_of_not_armed, idle]
  | @commitNow g idle agrees unset =>
    refine State.stored_of_one (g := g) h (fun g' other => State.commitNow_group_of_ne other) ?_ ?_ <;>
      rw [State.commitNow_group_self]
    · exact Group.banked_of_no_rows ((h.banked g).templates.swap _) ((w.placed g).rows_of_unset unset)
    · simp [Group.heldCells]
  | @commitArmed g e n n' atMode idle agrees set due =>
    refine State.stored_of_one (g := g) h (fun g' other => State.commitArmed_group_of_ne other) ?_ ?_ <;>
      rw [State.commitArmed_group_self]
    · exact (h.banked g).arm (w.placed g) idle set due
    · simp [Group.heldCells]
  | @cancel g a armed unused =>
    refine State.stored_of_one (g := g) h (fun g' other => State.cancelArmed_group_of_ne other) ?_ ?_ <;>
      rw [State.cancelArmed_group_self]
    · exact (h.banked g).disarm armed unused
    · simp [Group.heldCells]
  | hold | letGo => exact ⟨h.banked, h.cells⟩
  | powerOn | pinReset =>
    refine State.stored_of_free (by simp [State.powerOn, State.pinReset, State.reset]) (fun g => ?_) (fun g => ?_) fun g => ?_ <;>
      simp only [State.powerOn_group, State.pinReset_group]
    · exact Templates.initial_lawful
    · rfl
    · rfl
  | softReset =>
    refine State.stored_of_free (by simp [State.softReset, State.lookAtLines]) (fun g => ?_) (fun g => ?_) fun g => ?_ <;>
      rw [State.softReset_group]
    · exact (h.banked g).templates.switched
    · rfl
    · rfl

/-! ### The bound of the frame queues (R97) -/

section
variable {s t : State}

theorem State.queuesBounded_of_le (h : s.queuesBounded) (le : ∀ g, (t.group g).queue.length ≤ (s.group g).queue.length) :
    t.queuesBounded := fun g => (le g).trans (h g)

theorem State.queuesBounded_modGroup (h : s.queuesBounded) {g : GroupId} {f : Group → Group} (le : (f (s.group g)).queue.length ≤ 8) :
    (s.modGroup g f).queuesBounded := fun g' => by
  rw [State.group_modGroup]; split
  · next e => subst e; exact le
  · exact h g'

theorem State.Quiet.keepsBound (quiet : s.Quiet t) (h : s.queuesBounded) : t.queuesBounded :=
  State.queuesBounded_of_le h fun g => by rw [(quiet.groups g).queue]

theorem State.completeDrain_queue (s : State) (g g' : GroupId) : ((s.completeDrain g).group g').queue = (s.group g').queue := by
  by_cases same : g' = g
  · subst same; rw [State.completeDrain_group_self]
  · rw [State.completeDrain_group_of_ne same]

theorem State.afterLeaving_queue (s : State) (g g' : GroupId) : ((s.afterLeaving g).group g').queue = (s.group g').queue := by
  rcases s.afterLeaving_cases g with ⟨-, -, leaves⟩ | ⟨-, leaves⟩ | ⟨-, -, leaves⟩ <;> rw [leaves]
  · exact s.completeDrain_queue g g'
  · rw [State.group_modGroup]; split
    · next e => subst e; rfl
    · rfl

end

/-- The bound is kept by every move of a chain that finds room before it places a record. -/
theorem State.Move.keepsBound {pieces windows room : Prop} (lean : room) {s t : State} (move : State.Move pieces windows room s t)
    (h : s.queuesBounded) : t.queuesBounded := by
  cases move with
  | quiet quiet => exact quiet.keepsBound h
  | port | release => exact h
  | @send g head rest queue idle miss =>
    have := h g
    rw [queue] at this
    exact State.queuesBounded_modGroup h this
  | @emit g n set free =>
    have := free lean
    exact State.queuesBounded_modGroup h (by simp; omega)
  | @openRow g | @fillSlot g => exact State.queuesBounded_modGroup (by exact h) (by exact h g)
  | expire g | @start g | @rerun g | @drain g | @editIdle g => exact State.queuesBounded_modGroup h (by exact h g)
  | @cursor g n may =>
    refine State.queuesBounded_of_le h fun g' => ?_
    by_cases same : g' = g
    · subst same; rw [State.moveCursor_group_self]
    · rw [State.moveCursor_group_of_ne same]
  | @close u g r reason opened set free placed =>
    have := free lean
    have appended : (s.modGroup g fun x => { x with queue := x.queue ++ [s.recordOfRow g r reason] }).queuesBounded :=
      State.queuesBounded_modGroup h (by simp; omega)
    have hu := placed.keepsBound appended
    have released : (u.modGroup g fun x => { x with rows := x.rows.filter fun y => y.instant != r.instant }).queuesBounded :=
      State.queuesBounded_modGroup hu (hu g)
    exact released
  | @leave u g head rest queue sending removed =>
    refine State.queuesBounded_of_le h fun g' => ?_
    rw [State.afterLeaving_queue, (removed.groups g').queue]
    by_cases same : g' = g
    · subst same; rw [State.removeHead_group_self, queue]; simp
    · rw [State.removeHead_group_of_ne s same]
  | @stop g running empty => exact State.queuesBounded_of_le h fun g' => by rw [s.completeDrain_queue g g']
  | abort g =>
    refine State.queuesBounded_of_le h fun g' => ?_
    by_cases same : g' = g
    · subst same; rw [State.abortGroup_group_self]; exact List.length_filter_le _ _
    · rw [State.abortGroup_group_of_ne same]
  | @params g y stopped lawful =>
    refine State.queuesBounded_of_le h fun g' => ?_
    rw [State.group_setGroup]; split
    · next e => subst e; exact le_refl _
    · exact le_refl _
  | @commitNow g =>
    refine State.queuesBounded_of_le h fun g' => ?_
    by_cases same : g' = g
    · subst same; rw [State.commitNow_group_self]
    · rw [State.commitNow_group_of_ne same]
  | @commitArmed g =>
    refine State.queuesBounded_of_le h fun g' => ?_
    by_cases same : g' = g
    · subst same; rw [State.commitArmed_group_self]
    · rw [State.commitArmed_group_of_ne same]
  | @cancel g =>
    refine State.queuesBounded_of_le h fun g' => ?_
    by_cases same : g' = g
    · subst same; rw [State.cancelArmed_group_self]
    · rw [State.cancelArmed_group_of_ne same]
  | hold | letGo => exact h
  | powerOn | pinReset => intro g; simp only [State.powerOn_group, State.pinReset_group]; exact Nat.zero_le _
  | softReset => intro g; rw [State.softReset_group]; exact Nat.zero_le _

end Sys2Proof.Machine
end


section
/-! The trunk ports' events as chains of moves: the arbiter's choice (R129), the entering and leaving of UP (R118 to R121), received units
(R122, R123, R137), timers (R125, R126) and the ends of transmissions (R127, R132, R134). -/

namespace Sys2Proof.Machine

-- One after another, as in the tests: many proofs checked at once would each hold a thread.
set_option Elab.async false

section
variable {pieces windows room : Prop} {s t : State} {p : TrunkId}

/-! ### The arbiter and the credit waits -/

/-- The arbiter starts a unit or leaves all as it is (R129). -/
theorem State.moves_choose (s : State) (p : TrunkId) : State.Moves pieces windows room s (s.choose p) := by
  rcases s.choose_cases p with same | ⟨up, mark | ⟨r, reply⟩ | ⟨head, rest, queue, idle, frame⟩⟩
  · rw [same]; exact State.Moves.refl s
  · rw [mark]; exact (State.quiet_startMark s up).moves
  · rw [reply]; exact (State.quiet_startReply s up r).moves
  · rw [frame, State.startFrame]
    refine (State.Move.send queue idle (head.entries.any s.missesHold)).moves.quiet ?_
    exact State.quiet_modTrunk _ fun h => h.startUnit (by simpa using up) (le_refl _) (Nat.sub_le _ _) _ _

theorem State.Moves.choose (h : State.Moves pieces windows room s t) (p : TrunkId) : State.Moves pieces windows room s (t.choose p) :=
  h.trans (t.moves_choose p)

/-- The credit waits of an event add a starve timer's start or stop to its effect (R125). -/
theorem State.moves_withWaits {f : State → State} (h : State.Moves pieces windows room s (f s)) :
    State.Moves pieces windows room s (s.withWaits f) := h.quiet (s.quiet_withWaits f)

/-! ### Leaving UP (R119, R121, R133) -/

theorem State.quiet_draw (s : State) : s.Quiet { s with draws := s.draws + 1 } :=
  State.Quiet.of_pieces rfl rfl rfl rfl rfl rfl rfl rfl rfl

theorem State.quiet_logLoss (s : State) (p : TrunkId) (n : Instant) : s.Quiet (s.logLoss p n) := by
  unfold State.logLoss
  dsimp only
  split <;> exact s.quiet_draw.trans ((State.quiet_logFault _ _).trans (State.quiet_logFault _ _))

/-- A frame in transmission leaves its queue, lost (R133). -/
theorem State.moves_loseFrame {head : FrameRecord} {rest : List FrameRecord} (queue : (s.group p).queue = head :: rest)
    (sending : head.inTransmission = true) : State.Moves pieces windows room s (s.loseFrame p head rest) :=
  (State.Move.leave queue sending ((State.quiet_countGroup _ _ _ _).trans (State.quiet_handAttempt _ _))).moves

/-- A trunk port that has counted what it received leaves UP, with the soft reset where one is pending on it (R119, R121, R154). -/
theorem State.moves_trunkLeaveUp {f : Trunk → Trunk} {next : Link} (outside : next ≠ .up)
    (kept : (s.trunk p).Lawful →
      (f (s.trunk p)).aligningRun ≤ 4 ∧ (f (s.trunk p)).failureRun ≤ 8 ∧ countersLawful (f (s.trunk p)).counters) :
    State.Moves pieces windows room s ((s.modTrunk p f).trunkLeaveUp p next) := by
  have left : s.Quiet ({ s with draws := s.draws + 1 }.modTrunk p fun x => (f x).leaveUp (s.bytesOut p) next) :=
    s.quiet_draw.trans (State.quiet_modTrunk _ fun h => by
      obtain ⟨run, failures, counters⟩ := kept h
      exact Trunk.leaveUp_lawful run failures counters outside _)
  have merged : ({ s.modTrunk p f with draws := (s.modTrunk p f).draws + 1 } : State).modTrunk p
      (fun x => x.leaveUp ((s.modTrunk p f).bytesOut p) next) =
        { s with draws := s.draws + 1 }.modTrunk p fun x => (f x).leaveUp (s.bytesOut p) next :=
    State.modTrunk_modTrunk { s with draws := s.draws + 1 } p f _
  have lost : State.Moves pieces windows room s
      (match ((s.modTrunk p f).group p).sendingHead with
        | some (head, rest) =>
          (({ s with draws := s.draws + 1 }.modTrunk p fun x => (f x).leaveUp (s.bytesOut p) next).loseFrame p head rest).logLoss p
            head.instant
        | none =>
          ({ s with draws := s.draws + 1 }.modTrunk p fun x => (f x).leaveUp (s.bytesOut p) next).logFault
            (portLogging .trunkDown (.trunk p))) := by
    split
    · next head rest found =>
      obtain ⟨queue, sending⟩ := Group.sendingHead_eq_some.mp found
      exact (left.moves.trans (State.moves_loseFrame queue sending)).quiet (State.quiet_logLoss _ _ _)
    · exact left.moves.quiet (State.quiet_logFault _ _)
  unfold State.trunkLeaveUp
  dsimp only
  rw [merged]
  split
  · exact lost.trans (State.Move.softReset _).moves
  · exact lost

/-- A trunk port in UP that leaves it as it stands (R119, R121). -/
theorem State.moves_trunkLeaveUp_of_up (s : State) (p : TrunkId) {next : Link} (outside : next ≠ .up) :
    State.Moves pieces windows room s (s.trunkLeaveUp p next) := by
  have := State.moves_trunkLeaveUp (pieces := pieces) (windows := windows) (room := room) (s := s) (p := p) (f := id) outside
    fun h => ⟨h.run_le, h.failures_le, h.counters⟩
  rwa [State.modTrunk_id s p id rfl] at this

/-- A unit that fails its CRC check in UP (R118, R122). -/
theorem State.moves_trunkCheckError (up : (s.trunk p).link = .up) : State.Moves pieces windows room s (s.trunkCheckError p) := by
  unfold State.trunkCheckError
  dsimp only
  split
  · exact State.moves_trunkLeaveUp (by decide) fun h => by
      obtain ⟨-, -, -, -, run, -, -, few, -, counters⟩ := h
      exact ⟨run, few up, countersLawful_raise counters _ _⟩
  · next few =>
    refine (State.quiet_modTrunk _ fun ⟨h1, h2, h3, h4, h5, _, _, _, _, h10⟩ => ?_).moves
    rw [State.trunk_modTrunk_self] at few
    exact Trunk.lawful_of_up up h1 h2 h3 h4 h5 (Nat.not_le.mp few) (countersLawful_raise h10 _ _)

/-! ### Received units -/

theorem State.quiet_closeTrunkReception (s : State) (p : TrunkId) : s.Quiet (s.closeTrunkReception p) := s.quiet_modTrunk id

/-- A unit received in UP (R122, R123, R137). -/
theorem State.moves_trunkReceive (up : (s.trunk p).link = .up) {symbols : List LineSymbol} :
    State.Moves pieces windows room s (s.trunkReceive p (judgeTrunk symbols)) := by
  cases verdict : judgeTrunk symbols with
  | badCrc => exact State.moves_trunkCheckError up
  | badForm =>
    rw [State.trunkReceive, State.trunkBadForm]
    exact (State.quiet_modTrunk _ fun ⟨h1, h2, h3, h4, h5, _, _, _, _, h10⟩ =>
      Trunk.lawful_of_up up h1 h2 h3 h4 h5 (Nat.zero_lt_succ _) (countersLawful_raise h10 _ _)).moves
  | credit mode count =>
    rw [State.trunkReceive]
    exact (State.quiet_modTrunk _ fun h => h.takeCredit up mode (count_of_judgeTrunk verdict)).moves.choose p
  | request r =>
    rw [State.trunkReceive]
    exact (State.quiet_modTrunk _ fun h => h.queueRequest up r).moves

/-- One step toward alignment: the run rises, or the port enters UP with a choice (R5, R118, R120). -/
theorem State.trunkAlignStep_eq (s : State) (p : TrunkId) :
    s.trunkAlignStep p =
      if (s.trunk p).aligningRun < 3 then s.modTrunk p fun x => { x with aligningRun := x.aligningRun + 1 }
      else (s.modTrunk p fun x =>
        { x with
          aligningRun := 4, link := .up, failureRun := 0, markDebt := 1
          markTimer := if x.markInterval = 0 then none else some (s.time + BitVec.ofNat 32 x.markInterval) }).choose p := by
  unfold State.trunkAlignStep State.trunkEnterUp
  dsimp only
  by_cases few : (s.trunk p).aligningRun < 3
  · rw [if_neg (by omega), if_pos few]
    refine s.modTrunk_congr p _ _ ?_
    rw [Nat.min_eq_left (by omega)]
  · rw [if_pos (by omega), if_neg few, State.modTrunk_modTrunk]
    refine congrArg (State.choose · p) (s.modTrunk_congr p _ _ ?_)
    simp only [Nat.min_eq_right (by omega : 4 ≤ (s.trunk p).aligningRun + 1), State.modTrunk_time]

theorem State.moves_trunkAlignStep (s : State) (p : TrunkId) : State.Moves pieces windows room s (s.trunkAlignStep p) := by
  rw [State.trunkAlignStep_eq]
  split
  · next few =>
    refine (State.quiet_modTrunk _ fun ⟨h1, h2, h3, h4, h5, _, h7, h8, h9, h10⟩ => ?_).moves
    exact ⟨h1, h2, h3, h4, by simp only; omega, fun _ => by simp only; omega, h7, h8, h9, h10⟩
  · refine State.Moves.choose (State.quiet_modTrunk _ fun ⟨h1, _, h3, h4, _, _, _, _, _, h10⟩ => ?_).moves p
    exact Trunk.lawful_of_up rfl h1 (by simp) h3 h4 (le_refl 4) (Nat.zero_lt_succ _) h10

theorem State.moves_trunkAlignUnit (s : State) (p : TrunkId) (v : TrunkVerdict) :
    State.Moves pieces windows room s (s.trunkAlignUnit p v) := by
  cases v with
  | credit | request => exact s.moves_trunkAlignStep p
  | badCrc | badForm => exact (State.quiet_modTrunk _ Trunk.Lawful.alignBreak).moves

/-- A signal loss (R118, R119, R121). -/
theorem State.moves_trunkSignalLoss (s : State) (p : TrunkId) : State.Moves pieces windows room s (s.trunkSignalLoss p) := by
  have dropped : s.Quiet (s.modTrunk p fun x => { x with line := false, reception := none }) := s.quiet_modTrunk id
  have down : (s.trunk p).link ≠ .up →
      s.Quiet ((s.modTrunk p fun x => { x with line := false, reception := none }).modTrunk p fun x => { x with link := .down }) :=
    fun outside => by
      rw [State.modTrunk_modTrunk]
      exact s.quiet_modTrunk fun h => h.goDown outside false
  unfold State.trunkSignalLoss
  cases link : (s.trunk p).link with
  | up => exact dropped.moves.trans (State.moves_trunkLeaveUp_of_up _ p (by decide))
  | aligning | down => exact (down (by simp [link])).moves

/-! ### Timers -/

theorem State.quiet_reachTime (s : State) (t : Time) : s.Quiet (s.reachTime t) :=
  State.Quiet.of_pieces rfl rfl rfl rfl rfl rfl rfl rfl rfl

theorem State.quiet_expireStarve (s : State) (p : TrunkId) (t : Time) : s.Quiet (s.expireStarve p t) :=
  ((s.quiet_reachTime t).trans (State.quiet_logFault _ _)).trans
    (State.quiet_modTrunk _ fun h => h.with_timers _ _ _ h.mark_none fun _ => rfl)

/-- The expiry of a running mark timer (R126). -/
theorem State.moves_expireMark {now : Time} (running : (s.trunk p).markTimer = some now) :
    State.Moves pieces windows room s (s.expireMark p now) := by
  have busy : (s.trunk p).Lawful → (s.trunk p).link = .up := fun h => h.up_of_busy (Or.inl (by simp [running]))
  have restarted : s.Quiet ((s.reachTime now).modTrunk p fun x => { x with markTimer := some (now + BitVec.ofNat 32 x.markInterval) }) :=
    (s.quiet_reachTime now).trans (State.quiet_modTrunk _ fun h =>
      h.with_timers _ _ _ (fun outside => absurd (busy h) outside) h.starve_none)
  unfold State.expireMark
  dsimp only
  split
  · next few =>
    refine (restarted.trans (State.quiet_modTrunk _ fun h => ?_)).moves.choose p
    have up := h.up_of_busy (Or.inl (by rw [State.trunk_modTrunk_self]; simp))
    obtain ⟨h1, -, h3, h4, h5, -, -, h8, -, h10⟩ := h
    refine Trunk.lawful_of_up up h1 ?_ h3 h4 h5 (h8 up) h10
    rw [State.trunk_modTrunk_self]
    exact few
  · exact restarted.moves.quiet (State.quiet_logFault _ _)

/-! ### The ends of transmissions -/

/-- The end of a merged frame (R132). -/
theorem State.moves_endFrame {head : FrameRecord} {rest : List FrameRecord} (found : (s.group p).sendingHead = some (head, rest)) :
    State.Moves pieces windows room s (s.endFrame p head rest) := by
  obtain ⟨queue, sending⟩ := Group.sendingHead_eq_some.mp found
  have held : s.Quiet (head.entries.foldl (fun u e => u.updateHold p e) s) :=
    State.quiet_foldl s (fun t e => t.quiet_updateHold p e) _
  have queue' : ((head.entries.foldl (fun u e => u.updateHold p e) s).group p).queue = head :: rest := by
    rw [(held.groups p).queue, queue]
  have left := State.Move.leave (pieces := pieces) (windows := windows) (room := room) queue' sending
    ((State.quiet_countTrunk _ p .framesSent 1).trans (State.quiet_handAttempt _ p))
  exact ((held.moves.trans left.moves).quiet (State.quiet_endUnit _ p)).choose p

theorem State.moves_endMark (s : State) (p : TrunkId) : State.Moves pieces windows room s (s.endMark p) :=
  ((State.quiet_countTrunk s p .marksSent 1).trans (State.quiet_endUnit _ p)).moves.choose p

/-- The end of a reply, with the soft reset where it is the OK reply to RESET (R134, R154). -/
theorem State.moves_endReply (s : State) (p : TrunkId) (r : Reply) : State.Moves pieces windows room s (s.endReply p r) := by
  have ended : s.Quiet
      (((s.modTrunk p fun x => { x with replies := x.replies.tail }).countTrunk p .repliesSent 1).modTrunk p Trunk.endUnit) :=
    ((s.quiet_modTrunk fun h => h.with_replies (by
      obtain ⟨-, -, -, few, -⟩ := h
      simp; omega) fun empty _ => by simp [empty]).trans (State.quiet_countTrunk _ p _ _)).trans (State.quiet_endUnit _ p)
  unfold State.endReply
  dsimp only
  split
  · exact ended.moves.trans (State.Move.softReset _).moves
  · exact ended.moves.choose p

end

end Sys2Proof.Machine
end


section
/-! Placing a frame record (R32, R86, R91), and the count of the due instants of an advance (R40, R71). -/

namespace Sys2Proof.Machine

-- One after another, as in the tests: many proofs checked at once would each hold a thread.
set_option Elab.async false

/-! ### Placing a record -/

section
variable {s : State} {g : GroupId} {r : FrameRecord}

theorem State.placeRecord_group_self : (s.placeRecord g r).group g =
    { s.group g with
      queue := (s.group g).queue ++ [r], counters := raise (s.group g).counters r.reason.counter.index 1 } := by
  simp [State.placeRecord, State.countGroup]

theorem State.placeRecord_group_of_ne {g' : GroupId} (h : g' ≠ g) : (s.placeRecord g r).group g' = s.group g' := by
  simp [State.placeRecord, State.countGroup, State.group_modGroup_of_ne (h := h.symm)]

theorem State.placeRecord_stream (i : StreamId) :
    (s.placeRecord g r).stream i =
      ((((s.modGroup g fun x => { x with queue := x.queue ++ [r] }).addRefs r.entries).stepMonitors g r.instant r.entries).stream i) := by
  simp [State.placeRecord]

theorem State.stepMonitorList_refs (s : State) (g : GroupId) (n : Instant) (entries : List Entry) (i : StreamId) :
    ((entries.foldl (fun t e => t.stepMonitor g n e) s).stream i).refs = (s.stream i).refs := by
  induction entries generalizing s with
  | nil => rfl
  | cons e es ih => rw [List.foldl_cons, ih, (State.stepMonitor_stream_kept s g n e i).1]

theorem State.stepMonitors_refs (s : State) (g : GroupId) (n : Instant) (entries : List Entry) (i : StreamId) :
    ((s.stepMonitors g n entries).stream i).refs = (s.stream i).refs := by
  rw [State.stepMonitors, State.stepMonitorList_refs]; rfl

/-- The monitors' steps read neither the groups nor the count of free values. -/
theorem State.stepMonitor_with (s : State) (groups : Vector Group 2) (draws : Nat) (g : GroupId) (n : Instant) (e : Entry) :
    ({ s with groups := groups, draws := draws } : State).stepMonitor g n e =
      { s.stepMonitor g n e with groups := groups, draws := draws } := by
  have stream : ∀ i, ({ s with groups := groups, draws := draws } : State).stream i = s.stream i := fun _ => rfl
  unfold State.stepMonitor
  rw [stream]
  by_cases bound : (s.stream e.stream).group = some g
  · rw [if_pos bound, if_pos bound]
    cases e.content with
    | real c =>
      simp only [State.stepReal]; rw [stream]
      split <;> rfl
    | fill kind =>
      simp only [State.stepFill]; rw [stream]
      split <;> rfl
  · rw [if_neg bound, if_neg bound]

theorem State.stepMonitorList_with (s : State) (groups : Vector Group 2) (draws : Nat) (g : GroupId) (n : Instant) (entries : List Entry) :
    entries.foldl (fun t e => t.stepMonitor g n e) { s with groups := groups, draws := draws } =
      { entries.foldl (fun t e => t.stepMonitor g n e) s with groups := groups, draws := draws } := by
  induction entries generalizing s with
  | nil => rfl
  | cons e es ih => rw [List.foldl_cons, List.foldl_cons, State.stepMonitor_with, ih]

theorem State.addRefs_with (s : State) (groups : Vector Group 2) (entries : List Entry) :
    ({ s with groups := groups } : State).addRefs entries = { s.addRefs entries with groups := groups } := by
  unfold State.addRefs
  induction entries generalizing s with
  | nil => rfl
  | cons e es ih => exact ih (s.modStream e.stream fun x => { x with refs := x.refs + 1 })

end

/-- Settles O21: the group's own change, the stream table as the monitors' steps leave it, and the frame. -/
theorem placingARecordIsFramed : Obligations.PlacingARecordIsFramed := by
  intro s g r t counter
  have named : counter = r.reason.counter := by simp only [counter]; cases r.reason <;> rfl
  have placed : (s.modGroup g fun x => { x with queue := x.queue ++ [r] }).addRefs r.entries =
      { s.addRefs r.entries with groups := (s.modGroup g fun x => { x with queue := x.queue ++ [r] }).groups } :=
    State.addRefs_with s _ r.entries
  refine ⟨?_, fun g' other => State.placeRecord_group_of_ne other, fun i unnamed => ?_, fun i once => ?_,
    ⟨stepOrder ((s.addRefs r.entries).draws) r.entries, stepOrder_perm _ _, ?_⟩, ?_⟩
  · rw [named]; exact State.placeRecord_group_self
  · rw [State.placeRecord_stream, State.stepMonitors_stream_of_not_named _ _ _ unnamed, State.addRefs_stream, State.modGroup_stream,
      List.count_eq_zero_of_not_mem (by simpa using unnamed)]
    rfl
  · rw [State.placeRecord_stream, State.stepMonitors_refs, State.addRefs_stream, once]; rfl
  · have stepped := State.stepMonitorList_with (s.addRefs r.entries) (s.modGroup g fun x => { x with queue := x.queue ++ [r] }).groups
      ((s.addRefs r.entries).draws + 1) g r.instant (stepOrder (s.addRefs r.entries).draws r.entries)
    have final : t = (({ (stepOrder (s.addRefs r.entries).draws r.entries).foldl (fun u e => u.stepMonitor g r.instant e)
        (s.addRefs r.entries) with
          groups := (s.modGroup g fun x => { x with queue := x.queue ++ [r] }).groups
          draws := (s.addRefs r.entries).draws + 1 } : State).countGroup g r.reason.counter 1) := by
      rw [← stepped]
      simp only [t, State.placeRecord, State.stepMonitors, placed]
    rw [final]
    exact ⟨fun i => rfl, rfl⟩
  · apply State.ext_fields <;> simp [t, State.placeRecord, State.stepMonitors]

/-! ### Due instants (R40, R71) -/

/-- How many of the `len` instants from `n` on have a due slot, counted one by one (R40). -/
def dueAmong (slots : List Slot) (n : Instant) (len : Nat) : Nat :=
  ((List.range len).filter fun i => dueCount slots (n + BitVec.ofNat 32 i) != 0).length

theorem dueAmong_add (slots : List Slot) (n : Instant) (a b : Nat) :
    dueAmong slots n (a + b) = dueAmong slots n a + dueAmong slots (n + BitVec.ofNat 32 a) b := by
  simp only [dueAmong, List.range_add, List.filter_append, List.length_append, List.filter_map, List.length_map, Function.comp_def,
    BitVec.ofNat_add, BitVec.add_assoc]

/-- A lawful list has as many due instants from one start as from another a multiple of 8 away. -/
theorem dueAmong_period {slots : List Slot} (lawful : ∀ x ∈ slots, x.Lawful) (n : Instant) (q len : Nat) :
    dueAmong slots (n + BitVec.ofNat 32 (8 * q)) len = dueAmong slots n len := by
  have same : ∀ i, dueCount slots (n + BitVec.ofNat 32 (8 * q) + BitVec.ofNat 32 i) = dueCount slots (n + BitVec.ofNat 32 i) := fun i =>
    dueCount_period lawful (by simp only [BitVec.toNat_add, BitVec.toNat_ofNat]; omega)
  simp only [dueAmong, same]

theorem dueAmong_eights {slots : List Slot} (lawful : ∀ x ∈ slots, x.Lawful) (n : Instant) (q : Nat) :
    dueAmong slots n (8 * q) = q * dueAmong slots n 8 := by
  induction q with
  | zero => simp [dueAmong]
  | succ q ih => rw [Nat.mul_succ, dueAmong_add, ih, dueAmong_period lawful, Nat.succ_mul]

/-- The count by whole periods of 8 is the count one by one (R71). -/
theorem dueInstants_eq {slots : List Slot} (lawful : ∀ x ∈ slots, x.Lawful) (n : Instant) (len : Nat) :
    dueInstants slots n len = dueAmong slots n len :=
  calc dueInstants slots n len
      = len / 8 * dueAmong slots n 8 + dueAmong slots n (len % 8) := rfl
    _ = dueAmong slots n (8 * (len / 8)) + dueAmong slots (n + BitVec.ofNat 32 (8 * (len / 8))) (len % 8) := by
        rw [dueAmong_eights lawful, dueAmong_period lawful]
    _ = dueAmong slots n len := by rw [← dueAmong_add, Nat.div_add_mod]

/-- Settles O17: whole periods of 8 instants have equal counts, and the rest is counted one by one. -/
theorem dueInstantsAreCountedExactly : Obligations.DueInstantsAreCountedExactly := fun _ n len lawful => dueInstants_eq lawful n len

end Sys2Proof.Machine
end


section
/-! What the close unit's operations make of their own group (R58, R82 to R86, R94): the cursor goes ahead, with the switch where it
reaches S, records join the queue, and the rows stay but for one that closes. -/

namespace Sys2Proof.Machine

-- One after another, as in the tests: many proofs checked at once would each hold a thread.
set_option Elab.async false

/-! ### Distances along a run -/

theorem distance_add {e : Instant} {len : Nat} (h : len < 4294967296) : distance e (e + BitVec.ofNat 32 len) = len := by
  unfold distance
  rw [show e + BitVec.ofNat 32 len - e = BitVec.ofNat 32 len by ring, BitVec.toNat_ofNat, Nat.mod_eq_of_lt h]

/-- S stands ahead of `e`, and not before `n`: what the switch asks of a run from `e` to `n` (R51). -/
def Group.SwitchBeyond (x : Group) (e n : Instant) : Prop :=
  ∀ a, x.templates.armed = some a → before e a.switchAt = true ∧ distance e n ≤ distance e a.switchAt

/-- Group `y` is group `x` once its cursor has gone from `e` to `n` and `placed` records have joined its queue. -/
structure Group.Passed (x y : Group) (e n : Instant) (placed : Nat) : Prop where
  cursor : y.cursor = some n
  rows : y.rows = x.rows
  depth : y.depth = x.depth
  state : y.state = x.state
  empty : y.empty = x.empty
  queue : y.queue.length = x.queue.length + placed
  armed : ∀ a, y.templates.armed = some a →
    x.templates.armed = some a ∧ ¬(before e a.switchAt = true ∧ atOrAfter n a.switchAt = true)
  governing : x.SwitchBeyond e n → ∀ m, distance e n ≤ distance e m → distance e m ≤ 2147483647 →
    y.templates.governing m = x.templates.governing m

section
variable {x y z : Group} {e m n : Instant} {j k : Nat}

/-- S that has not been reached on the way to `m` is still ahead. -/
theorem Group.Passed.ahead (h : x.Passed y e m k) (near : distance e m ≤ 2147483647) {a : Armed} (armed : y.templates.armed = some a)
    (ahead : before e a.switchAt = true) : before m a.switchAt = true :=
  before_of_not_reached ahead near (Bool.eq_false_iff.mpr fun reached => (h.armed a armed).2 ⟨ahead, reached⟩)

theorem Group.Passed.switchBeyond (h : x.Passed y e m k) (order : distance e m ≤ distance e n) (near : distance e n ≤ 2147483647)
    (beyond : x.SwitchBeyond e n) : y.SwitchBeyond m n := by
  intro a armed
  obtain ⟨ahead, far⟩ := beyond a (h.armed a armed).1
  refine ⟨h.ahead (by omega) armed ahead, ?_⟩
  rw [distance_from order, distance_from (order.trans far)]; omega

theorem Group.Passed.trans (h : x.Passed y e m j) (h' : y.Passed z m n k) (order : distance e m ≤ distance e n)
    (near : distance e n ≤ 2147483647) : x.Passed z e n (j + k) where
  cursor := h'.cursor
  rows := h'.rows.trans h.rows
  depth := h'.depth.trans h.depth
  state := h'.state.trans h.state
  empty := h'.empty.trans h.empty
  queue := by rw [h'.queue, h.queue, Nat.add_assoc]
  armed a armed := by
    obtain ⟨armed, short⟩ := h'.armed a armed
    exact ⟨(h.armed a armed).1, fun ⟨ahead, reached⟩ => short ⟨h.ahead (by omega) armed ahead, reached⟩⟩
  governing beyond l far within := by
    have first : x.SwitchBeyond e m := fun a armed => ⟨(beyond a armed).1, order.trans (beyond a armed).2⟩
    rw [h'.governing (h.switchBeyond order near beyond) l, h.governing first l (order.trans far) within]
    · rw [distance_from order, distance_from (order.trans far)]; omega
    · rw [distance_from (order.trans far)]; omega

/-- A run in which nothing but the queue has changed before it. -/
theorem Group.Passed.of_queue {q : List FrameRecord} {v : Vector Nat 12} (length : q.length = x.queue.length + j)
    (h : ({ x with queue := q, counters := v } : Group).Passed y e n k) : x.Passed y e n (j + k) where
  cursor := h.cursor
  rows := h.rows
  depth := h.depth
  state := h.state
  empty := h.empty
  queue := by rw [h.queue, length, Nat.add_assoc]
  armed := h.armed
  governing := h.governing

/-- A run in which nothing but the records of the queue changes after it. -/
theorem Group.Passed.with_queue {q : List FrameRecord} (h : x.Passed y e n k) (length : q.length = y.queue.length)
    (hz : z = { y with queue := q }) : x.Passed z e n k := by
  subst hz
  exact ⟨h.cursor, h.rows, h.depth, h.state, h.empty, length.trans h.queue, h.armed, h.governing⟩

end

section
variable {s : State} {g : GroupId} {e n : Instant}

/-- The arbiter's choice marks the head of a queue at most (R129, R131). -/
theorem State.choose_group (s : State) (p : TrunkId) (g : GroupId) :
    ∃ q, q.length = (s.group g).queue.length ∧ (s.choose p).group g = { s.group g with queue := q } := by
  rcases s.choose_cases p with same | ⟨-, mark | ⟨r, reply⟩ | ⟨head, rest, queue, -, frame⟩⟩
  · exact ⟨_, rfl, by rw [same]⟩
  · exact ⟨_, rfl, by rw [mark]; rfl⟩
  · exact ⟨_, rfl, by rw [reply]; rfl⟩
  · rw [frame, State.startFrame, State.modTrunk_group, State.group_modGroup]
    split
    · next same => subst same; exact ⟨_, by rw [queue]; rfl, rfl⟩
    · exact ⟨_, rfl, rfl⟩

theorem Group.Passed.choose {x : Group} {k : Nat} (h : x.Passed (s.group g) e n k) (p : TrunkId) :
    x.Passed ((s.choose p).group g) e n k := by
  obtain ⟨q, length, group⟩ := s.choose_group p g
  exact h.with_queue length group

theorem State.passed_moveCursor (set : (s.group g).cursor = some e) (near : distance e n ≤ 2147483647) :
    (s.group g).Passed ((s.moveCursor g n).group g) e n 0 := by
  rw [State.moveCursor_group_self]
  refine ⟨rfl, rfl, rfl, rfl, rfl, rfl, fun a armed => ?_, fun beyond m far within => ?_⟩
  · simp only at armed
    split at armed
    · rw [Templates.switched_armed] at armed; cases armed
    · next short => exact ⟨armed, fun ⟨ahead, reached⟩ => short (Group.switchesAt_iff.mpr ⟨e, a, set, armed, ahead, reached⟩)⟩
  · simp only
    split
    · next switches =>
      obtain ⟨e', a, set', armed, ahead, -⟩ := Group.switchesAt_iff.mp switches
      obtain rfl : e' = e := by rw [set] at set'; exact (Option.some.inj set').symm
      have atS : distance e' n = distance e' a.switchAt :=
        le_antisymm (beyond a armed).2 ((atOrAfter_iff_distance ahead near).mp (Group.switchesAt_iff.mp switches |> fun ⟨e'', a', c, ar, _, re⟩ => by
          rw [set] at c; cases c; rw [armed] at ar; cases ar; exact re))
      rw [Templates.governing_of_reached armed ((atOrAfter_iff_distance ahead within).mpr (by omega)), Templates.switched_of_armed armed,
        Templates.governing_of_not_armed rfl]
      rfl
    · rfl

theorem State.passed_skipInstants {len : Nat} (set : (s.group g).cursor = some e) (near : len ≤ 2147483647) (due : Nat) :
    (s.group g).Passed ((s.skipInstants g e len due).group g) e (e + BitVec.ofNat 32 len) 0 := by
  have counted : ((s.countGroup g .skipped due).group g).cursor = some e := by simp [State.countGroup, set]
  have passed := State.passed_moveCursor (n := e + BitVec.ofNat 32 len) counted (by rw [distance_add (by omega)]; exact near)
  rw [State.countGroup, State.group_modGroup_self] at passed
  exact Group.Passed.of_queue (j := 0) rfl passed

theorem distance_succ (e : Instant) : distance e (e + 1) ≤ 2147483647 := by rw [distance_succ_self]; omega

theorem State.passed_emitInstant (set : (s.group g).cursor = some e) :
    (s.group g).Passed ((s.emitInstant g e).group g) e (e + 1) 1 := by
  have placed : ((s.placeRecord g (s.emptyRecord g e)).group g).cursor = some e := by rw [State.placeRecord_group_self]; exact set
  have passed := State.passed_moveCursor placed (distance_succ e)
  rw [State.placeRecord_group_self] at passed
  exact (Group.Passed.of_queue (j := 1) (by simp) passed).choose g

theorem State.passed_closeRow {r : Row} (set : (s.group g).cursor = some r.instant) (reason : CloseReason) :
    ({ s.group g with rows := (s.group g).rows.filter fun y => y.instant != r.instant } : Group).Passed
      ((s.closeRow g r reason).group g) r.instant (r.instant + 1) 1 := by
  have closed : ((((s.placeRecord g (s.recordOfRow g r reason)).modGroup g fun x =>
      { x with rows := x.rows.filter fun y => y.instant != r.instant }).freeRowList [r.rowId]).group g).cursor = some r.instant := by
    rw [State.freeRowList_group, State.group_modGroup_self, State.placeRecord_group_self]; exact set
  have passed := State.passed_moveCursor closed (distance_succ r.instant)
  rw [State.freeRowList_group, State.group_modGroup_self, State.placeRecord_group_self] at passed
  exact (Group.Passed.of_queue (j := 1)
    (x := { s.group g with rows := (s.group g).rows.filter fun y => y.instant != r.instant }) (by simp) passed).choose g

/-- The empty instant at the cursor is passed, with a record where one is needed (R83 to R85). -/
theorem State.passed_passEmpty (set : (s.group g).cursor = some e) :
    (s.group g).Passed ((s.passEmpty g e).group g) e (e + 1) (if (s.group g).needsPlace e then 1 else 0) := by
  have skip : ∀ due, (s.group g).Passed ((s.skipInstants g e 1 due).group g) e (e + 1) 0 :=
    fun due => State.passed_skipInstants set (by omega) due
  unfold State.passEmpty
  by_cases none : dueCount (s.group g).templates.activeSlots e = 0
  · have needs : (s.group g).needsPlace e = false := by simp [Group.needsPlace, none]
    rw [if_pos none, needs]
    exact skip 0
  · rw [if_neg none]
    cases policy : (s.group g).empty with
    | skip =>
      have needs : (s.group g).needsPlace e = false := by simp [Group.needsPlace, policy]
      rw [needs]
      exact skip 1
    | emit =>
      have needs : (s.group g).needsPlace e = true := by simp [Group.needsPlace, policy, none]
      rw [needs]
      exact State.passed_emitInstant set

theorem succ_add_ofNat (e : Instant) (len : Nat) : e + 1 + BitVec.ofNat 32 len = e + BitVec.ofNat 32 (len + 1) := by
  rw [BitVec.ofNat_add, BitVec.add_assoc, BitVec.add_comm 1]; rfl

/-- A run of empty instants is passed one by one (R85). -/
theorem State.passed_passEach {len : Nat} (set : (s.group g).cursor = some e) (near : len ≤ 2147483647) :
    ∃ k, (s.group g).Passed ((State.passEach g len s).group g) e (e + BitVec.ofNat 32 len) k := by
  induction len generalizing s e with
  | zero =>
    refine ⟨0, by simpa [State.passEach] using set, rfl, rfl, rfl, rfl, rfl, fun a armed => ⟨armed, fun ⟨ahead, reached⟩ => ?_⟩,
      fun _ _ _ _ => rfl⟩
    have := (atOrAfter_iff_distance ahead (by rw [distance_add (by omega)]; omega)).mp reached
    rw [distance_add (by omega)] at this
    have := (before_iff_distance.mp ahead).1
    omega
  | succ len ih =>
    have first := State.passed_passEmpty set
    obtain ⟨k, rest⟩ := ih first.cursor (by omega)
    rw [succ_add_ofNat] at rest
    have all := first.trans rest (by rw [distance_succ_self, distance_add (by omega)]; omega) (by rw [distance_add (by omega)]; omega)
    rw [State.passEach, set]
    exact ⟨_, all⟩

theorem State.passed_passRun {len : Nat} (set : (s.group g).cursor = some e) (near : len ≤ 2147483647) :
    ∃ k, (s.group g).Passed ((s.passRun g e len).group g) e (e + BitVec.ofNat 32 len) k := by
  unfold State.passRun
  dsimp only
  split
  · exact ⟨0, State.passed_skipInstants set near _⟩
  · exact State.passed_passEach set near

end

end Sys2Proof.Machine
end


section
/-! The walk of a close attempt as a chain of moves (R82 to R86), and where it stops (R82). -/

namespace Sys2Proof.Machine

-- One after another, as in the tests: many proofs checked at once would each hold a thread.
set_option Elab.async false

/-! ### Where the cursor may go -/

section
variable {s t : State} {g : GroupId} {e n : Instant}

/-- The cursor may run over instants short of every open row, of S and of the instant of a waiting message. -/
theorem State.mayMoveTo_run {len : Nat} (set : (s.group g).cursor = some e) (near : len ≤ 2147483647)
    (rows : ∀ r ∈ (s.group g).rows, len ≤ distance e r.instant)
    (armed : ∀ a, (s.group g).templates.armed = some a → len ≤ distance e a.switchAt)
    (waiting : ∀ w, s.intake = some w → w.group = g → len ≤ distance e w.instant) : s.MayMoveTo g (e + BitVec.ofNat 32 len) := by
  have run : ∀ e', (s.group g).cursor = some e' → e' = e := fun e' set' => by rw [set] at set'; exact (Option.some.inj set').symm
  have far : distance e (e + BitVec.ofNat 32 len) = len := distance_add (by omega)
  refine ⟨fun unset => absurd (set.symm.trans unset) (by simp), fun e' set' => ?_, fun e' set' r open_ => ?_, fun e' a set' arm before => ?_,
    fun e' w set' waits own => ?_⟩ <;> obtain rfl := run e' set'
  · omega
  · have := rows r open_; omega
  · have := armed a arm; omega
  · have := waiting w waits own; omega

/-- The cursor may pass an instant that has no open row and is no waiting message's (R58). -/
theorem State.WindowsLawful.mayStep (h : s.WindowsLawful) (set : (s.group g).cursor = some e)
    (rows : ∀ r ∈ (s.group g).rows, r.instant ≠ e) (waiting : ∀ w, s.intake = some w → w.group = g → w.instant ≠ e) :
    s.MayMoveTo g (e + 1) := by
  have beyond : ∀ {m : Instant}, m ≠ e → 1 ≤ distance e m := fun {m} other =>
    Nat.one_le_iff_ne_zero.mpr fun zero => other (distance_eq_zero_iff.mp zero)
  exact State.mayMoveTo_run (len := 1) set (by omega) (fun r open_ => beyond (rows r open_))
    (fun a armed => (before_iff_distance.mp ((h.placed g).ahead set armed)).1) fun w waits own => beyond (waiting w waits own)

theorem State.MayMoveTo.congr (h : s.MayMoveTo g n) (cursor : (t.group g).cursor = (s.group g).cursor)
    (rows : (t.group g).rows = (s.group g).rows) (templates : (t.group g).templates = (s.group g).templates)
    (state : (t.group g).state = (s.group g).state) (intake : t.intake = s.intake) : t.MayMoveTo g n := by
  obtain ⟨unset, ahead, passed, switch, waiting⟩ := h
  constructor
  · rw [cursor, state, intake]; exact unset
  · rw [cursor]; exact ahead
  · rw [cursor, rows]; exact passed
  · rw [cursor, templates, rows]; exact switch
  · rw [cursor, intake]; exact waiting

end

section
variable {pieces windows room : Prop} {s : State} {g : GroupId} {e : Instant}

/-! ### One instant -/

/-- The governing row is closed at the cursor (R86). -/
theorem State.moves_closeRow {r : Row} (set : (s.group g).cursor = some r.instant) (opened : r ∈ (s.group g).rows)
    (lawful : windows → s.WindowsLawful) (free : room → (s.group g).queue.length < 8) (reason : CloseReason) :
    State.Moves pieces windows room s (s.closeRow g r reason) := by
  have placed : (s.modGroup g fun x => { x with queue := x.queue ++ [s.recordOfRow g r reason] }).Quiet
      (s.placeRecord g (s.recordOfRow g r reason)) :=
    ((State.quiet_addRefs _ _).trans (State.quiet_stepMonitors _ _ _ _)).trans (State.quiet_countGroup _ _ _ _)
  have close := State.Move.close (pieces := pieces) (windows := windows) (room := room) opened (by simp [set]) free placed
  refine (close.moves.trans (State.Move.cursor fun lean => ?_).moves).choose g
  have h := lawful lean
  refine (close.keepsWindows lean h).mayStep ?_ (fun y hy => ?_) fun w waits own same => ?_
  · rw [State.freeRowList_group, State.group_modGroup_self, State.placeRecord_group_self]; exact set
  · rw [State.freeRowList_group, State.group_modGroup_self] at hy
    simpa using (List.mem_filter.mp hy).2
  · have still : s.intake = some w := by simpa using waits
    subst own
    have := (h.2 w r.instant still set).2 r opened
    rw [same] at this
    omega

theorem State.moves_emitInstant (set : (s.group g).cursor = some e) (may : windows → s.MayMoveTo g (e + 1))
    (free : room → (s.group g).queue.length < 8) : State.Moves pieces windows room s (s.emitInstant g e) := by
  have emit := State.Move.emit (pieces := pieces) (windows := windows) (n := e) (by simp [set]) free
  have placed : (s.modGroup g fun x => { x with queue := x.queue ++ [s.emptyRecord g e] }).Quiet (s.placeRecord g (s.emptyRecord g e)) :=
    ((State.quiet_addRefs _ _).trans (State.quiet_stepMonitors _ _ _ _)).trans (State.quiet_countGroup _ _ _ _)
  refine ((emit.moves.quiet placed).trans (State.Move.cursor fun lean => ?_).moves).choose g
  exact (may lean).congr (by rw [State.placeRecord_group_self]) (by rw [State.placeRecord_group_self])
    (by rw [State.placeRecord_group_self]) (by rw [State.placeRecord_group_self]) (by simp)

theorem State.moves_skipInstants {len : Nat} (may : windows → s.MayMoveTo g (e + BitVec.ofNat 32 len)) (due : Nat) :
    State.Moves pieces windows room s (s.skipInstants g e len due) := by
  refine (State.quiet_countGroup s g .skipped due).moves.trans (State.Move.cursor fun lean => ?_).moves
  exact (may lean).congr (by simp [State.countGroup]) (by simp [State.countGroup]) (by simp [State.countGroup])
    (by simp [State.countGroup]) (by simp)

/-- The empty instant at the cursor is passed (R83 to R85). -/
theorem State.moves_passEmpty (set : (s.group g).cursor = some e) (may : windows → s.MayMoveTo g (e + 1))
    (free : room → (s.group g).needsPlace e = true → (s.group g).queue.length < 8) :
    State.Moves pieces windows room s (s.passEmpty g e) := by
  unfold State.passEmpty
  split
  · exact State.moves_skipInstants may 0
  · next due =>
    split
    · exact State.moves_skipInstants may 1
    · next policy => exact State.moves_emitInstant set may fun lean => free lean (by simp [Group.needsPlace, policy, due])

/-! ### The walk -/

theorem Group.ripeGoverning_eq_some {x : Group} {r : Row} (h : x.ripeGoverning = some r) :
    (∃ rest, x.rows = r :: rest) ∧ x.rowRipe r = true := by
  unfold Group.ripeGoverning at h
  cases rows : x.rows with
  | nil => simp [rows] at h
  | cons y rest =>
    simp only [rows] at h
    split at h
    · next ripe => cases h; exact ⟨⟨rest, rfl⟩, ripe⟩
    · cases h

theorem Group.freePlaces_eq_zero {x : Group} : x.freePlaces = 0 ↔ 8 ≤ x.queue.length := by
  unfold Group.freePlaces; omega

/-- The rows of a window stand in instant order, the governing row first. -/
theorem Group.Placed.governing_first {x : Group} (h : x.Placed) (set : x.cursor = some e) {r : Row} {rest : List Row}
    (rows : x.rows = r :: rest) : ∀ y ∈ x.rows, distance e r.instant ≤ distance e y.instant := by
  have sorted := ((Group.windowLawful_iff.mp h.window).2 e set).2
  rw [rows] at sorted ⊢
  intro y hy
  rcases List.mem_cons.mp hy with rfl | hy
  · exact le_refl _
  · exact le_of_lt ((List.pairwise_cons.mp sorted).1 y hy)

/-- The walk of an attempt (R82). -/
theorem State.moves_walk (g : GroupId) (fuel : Nat) (s : State) (lawful : windows → s.WindowsLawful) :
    State.Moves pieces windows room s (State.walk g fuel s) := by
  induction fuel generalizing s with
  | zero => exact State.Moves.refl s
  | succ fuel ih =>
    have onward : ∀ {t : State}, State.Moves pieces windows room s t → State.Moves pieces windows room s (State.walk g fuel t) := fun moves =>
      moves.trans (ih _ fun lean => State.Moves.keeps (fun _ _ move => move.keepsWindows lean) moves (lawful lean))
    unfold State.walk
    split
    · next r e ripe set =>
      obtain ⟨⟨rest, rows⟩, -⟩ := Group.ripeGoverning_eq_some ripe
      have opened : r ∈ (s.group g).rows := by simp [rows]
      split
      · next at_ =>
        subst at_
        split
        · exact State.Moves.refl s
        · next places =>
          exact onward (State.moves_closeRow set opened lawful (fun _ => by rw [Group.freePlaces_eq_zero] at places; omega) _)
      · next short =>
        split
        · exact State.Moves.refl s
        · next places =>
          refine onward (State.moves_passEmpty set (fun lean => ?_) fun _ needs => ?_)
          · have h := lawful lean
            have first := (h.placed g).governing_first set rows
            have ahead : 1 ≤ distance e r.instant := Nat.one_le_iff_ne_zero.mpr fun zero => short (distance_eq_zero_iff.mp zero).symm
            refine h.mayStep set (fun y hy same => ?_) fun w waits own same => ?_
            · have := first y hy
              rw [same, distance_self] at this
              omega
            · subst own
              have := (h.2 w e waits set).2 r opened
              rw [same, distance_self] at this
              omega
          · rw [Group.freePlaces_eq_zero] at places
            by_contra full
            exact places ⟨needs, by omega⟩
    · exact State.Moves.refl s

theorem State.moves_takeAttempt (s : State) (g : GroupId) (lawful : windows → s.WindowsLawful) :
    State.Moves pieces windows room s (s.takeAttempt g) := by
  have taken : s.Quiet (s.modGroup g fun x => { x with attempts := x.attempts - 1 }) := s.quiet_modGroup ⟨rfl, id, id⟩
  exact taken.moves.trans (State.moves_walk g 64 _ fun lean => taken.keepsWindows (lawful lean))

end

/-! ### Where a walk stops (R82) -/

/-- A walk with a move left for every instant up to the last open row stops with no ripe governing row, or at a full frame queue. -/
theorem State.walk_stops (g : GroupId) (fuel : Nat) (s : State) {e : Instant} (set : (s.group g).cursor = some e)
    (within : ∀ r ∈ (s.group g).rows, distance e r.instant < fuel)
    (sorted : (s.group g).rows.Pairwise fun r r' => distance e r.instant < distance e r'.instant) :
    (∀ r rest, ((State.walk g fuel s).group g).rows = r :: rest → ((State.walk g fuel s).group g).rowRipe r = false) ∨
      8 ≤ ((State.walk g fuel s).group g).queue.length := by
  induction fuel generalizing s e with
  | zero =>
    refine Or.inl fun r rest rows => ?_
    have := within r (by rw [State.walk] at rows; simp [rows])
    omega
  | succ fuel ih =>
    have onward : ∀ {t : State} {keep : Row → Bool} {k : Nat},
        ({ s.group g with rows := (s.group g).rows.filter keep } : Group).Passed (t.group g) e (e + 1) k →
        (∀ r ∈ (s.group g).rows.filter keep, r.instant ≠ e) →
        (∀ r rest, ((State.walk g fuel t).group g).rows = r :: rest → ((State.walk g fuel t).group g).rowRipe r = false) ∨
          8 ≤ ((State.walk g fuel t).group g).queue.length := fun {t keep k} passed others => by
      have nearer : ∀ r ∈ (s.group g).rows.filter keep, distance e r.instant = distance (e + 1) r.instant + 1 := fun r hr => by
        have ahead : distance e (e + 1) ≤ distance e r.instant := by
          rw [distance_succ_self]
          exact Nat.one_le_iff_ne_zero.mpr fun zero => others r hr (distance_eq_zero_iff.mp zero)
        rw [distance_from ahead, distance_succ_self] at *; omega
      refine ih t passed.cursor (fun r hr => ?_) ?_
      · rw [passed.rows] at hr
        have := within r (List.mem_of_mem_filter hr)
        have := nearer r hr
        omega
      · rw [passed.rows]
        refine List.Pairwise.imp_of_mem (fun {r r'} hr hr' lt => ?_) (sorted.filter keep)
        have := nearer r hr
        have := nearer r' hr'
        omega
    unfold State.walk
    rw [set]
    cases ripe : (s.group g).ripeGoverning with
    | none =>
      refine Or.inl fun r rest rows => ?_
      simp only [Group.ripeGoverning, show (s.group g).rows = r :: rest from rows] at ripe
      split at ripe
      · cases ripe
      · next raw => exact Bool.eq_false_iff.mpr raw
    | some r =>
      obtain ⟨⟨rest, rows⟩, -⟩ := Group.ripeGoverning_eq_some ripe
      dsimp only
      by_cases at_ : e = r.instant
      · subst at_
        rw [if_pos rfl]
        split
        · next full => exact Or.inr (Group.freePlaces_eq_zero.mp full)
        · exact onward (State.passed_closeRow set _) fun y hy => by simpa using (List.mem_filter.mp hy).2
      · rw [if_neg at_]
        split
        · next full => exact Or.inr (Group.freePlaces_eq_zero.mp full.2)
        · refine onward (keep := fun _ => true) (by rw [List.filter_true]; exact State.passed_passEmpty set) fun y hy same => ?_
          rw [List.filter_true, rows] at hy
          rw [rows] at sorted
          rcases List.mem_cons.mp hy with rfl | hy
          · exact at_ same.symm
          · have := (List.pairwise_cons.mp sorted).1 y hy
            rw [same, distance_self] at this
            omega

end Sys2Proof.Machine
end


section
/-! The forced advance (R71, R94): how far a run of empty instants goes, that the advance reaches its target, and the advance as a chain
of moves that places no more records than the instants before the target ask for. -/

namespace Sys2Proof.Machine

-- One after another, as in the tests: many proofs checked at once would each hold a thread.
set_option Elab.async false

/-! ### How far a run goes -/

theorem nearest_le (e : Instant) (limit : Nat) (stops : List Instant) : nearest e limit stops ≤ limit := by
  unfold nearest
  induction stops generalizing limit with
  | nil => exact le_refl _
  | cons n rest ih =>
    rw [List.foldl_cons]
    refine (ih _).trans ?_
    split
    · next nearer => exact le_of_lt nearer.2
    · exact le_refl _

theorem nearest_le_of_mem {e n : Instant} {limit : Nat} {stops : List Instant} (mem : n ∈ stops) (ahead : 1 ≤ distance e n) :
    nearest e limit stops ≤ distance e n := by
  induction stops generalizing limit with
  | nil => cases mem
  | cons m rest ih =>
    rcases List.mem_cons.mp mem with rfl | mem
    · refine (nearest_le e _ rest).trans ?_
      dsimp only
      split
      · exact le_refl _
      · next farther => exact Nat.not_lt.mp fun lt => farther ⟨ahead, lt⟩
    · exact ih mem

theorem nearest_attained (e : Instant) (limit : Nat) (stops : List Instant) :
    nearest e limit stops = limit ∨ ∃ n ∈ stops, 1 ≤ distance e n ∧ nearest e limit stops = distance e n := by
  induction stops generalizing limit with
  | nil => exact Or.inl rfl
  | cons m rest ih =>
    rw [nearest, List.foldl_cons]
    rcases ih (if 1 ≤ distance e m ∧ distance e m < limit then distance e m else limit) with same | ⟨n, mem, ahead, attained⟩
    · change nearest e _ rest = limit ∨ _
      split at same
      · next nearer =>
        rw [if_pos nearer]
        exact Or.inr ⟨m, List.mem_cons_self, nearer.1, same⟩
      · next farther =>
        rw [if_neg farther]
        exact Or.inl same
    · exact Or.inr ⟨n, List.mem_cons_of_mem _ mem, ahead, attained⟩

/-- The instants at which a run of empty instants stops: those of the open rows, and S. -/
def Group.stops (x : Group) : List Instant := x.rows.map Row.instant ++ (x.templates.armed.map Armed.switchAt).toList

/-- The length of the run of empty instants from `e` on, in an advance to `target`. -/
def Group.runLength (x : Group) (e target : Instant) : Nat := nearest e (distance e target) x.stops

section
variable {x : Group} {e target : Instant}

theorem Group.mem_stops {n : Instant} :
    n ∈ x.stops ↔ (∃ r ∈ x.rows, r.instant = n) ∨ ∃ a, x.templates.armed = some a ∧ a.switchAt = n := by
  simp [Group.stops]

theorem Group.runLength_pos (ahead : 1 ≤ distance e target) : 1 ≤ x.runLength e target := by
  rcases nearest_attained e (distance e target) x.stops with limit | ⟨n, -, pos, attained⟩
  · rw [Group.runLength, limit]; exact ahead
  · rw [Group.runLength, attained]; exact pos

theorem Group.runLength_le_row {r : Row} (open_ : r ∈ x.rows) (other : r.instant ≠ e) : x.runLength e target ≤ distance e r.instant :=
  nearest_le_of_mem (Group.mem_stops.mpr (Or.inl ⟨r, open_, rfl⟩)) (Nat.one_le_iff_ne_zero.mpr fun zero => other (distance_eq_zero_iff.mp zero))

theorem Group.runLength_le_switch {a : Armed} (armed : x.templates.armed = some a) (ahead : before e a.switchAt = true) :
    x.runLength e target ≤ distance e a.switchAt :=
  nearest_le_of_mem (Group.mem_stops.mpr (Or.inr ⟨a, armed, rfl⟩)) (before_iff_distance.mp ahead).1

end

section
variable {s : State} {g : GroupId} {e target : Instant} {fuel : Nat}

theorem State.advanceTo_of_reached (set : (s.group g).cursor = some e) (reached : before e target = false) :
    State.advanceTo g target fuel s = s := by
  cases fuel with
  | zero => rfl
  | succ fuel => simp only [State.advanceTo, set, reached, Bool.false_eq_true, if_false]

theorem State.advanceTo_of_row {r : Row} (set : (s.group g).cursor = some e) (ahead : before e target = true)
    (row : (s.group g).rowAt e = some r) :
    State.advanceTo g target (fuel + 1) s = State.advanceTo g target fuel (s.closeRow g r ((s.group g).forcedReason r)) := by
  simp only [State.advanceTo, set, ahead, if_true, row]

theorem State.advanceTo_of_run (set : (s.group g).cursor = some e) (ahead : before e target = true)
    (row : (s.group g).rowAt e = none) :
    State.advanceTo g target (fuel + 1) s =
      State.advanceTo g target fuel (s.passRun g e ((s.group g).runLength e target)) := by
  simp only [State.advanceTo, set, ahead, if_true, row]
  rfl

end

/-! ### The advance reaches its target -/

/-- S lies ahead of `e` and before `target`. -/
def Group.meetsSwitch (x : Group) (e target : Instant) : Bool :=
  x.templates.armed.any fun a => decide (1 ≤ distance e a.switchAt ∧ distance e a.switchAt < distance e target)

/-- At most how many rows and runs an advance from `e` still meets: each open row and the run before it, the run to S, and the run from
`e` itself. -/
def Group.advanceLeft (x : Group) (e target : Instant) : Nat :=
  2 * x.rows.length + (x.meetsSwitch e target).toNat + (x.rowAt e).isNone.toNat

theorem Group.meetsSwitch_iff {x : Group} {e target : Instant} :
    x.meetsSwitch e target = true ↔
      ∃ a, x.templates.armed = some a ∧ 1 ≤ distance e a.switchAt ∧ distance e a.switchAt < distance e target := by
  simp [Group.meetsSwitch, Option.any_eq_true]

theorem Bool.toNat_le_of_imp {a b : Bool} (h : a = true → b = true) : a.toNat ≤ b.toNat := by
  cases a <;> cases b <;> simp_all

/-- S is not met anew on the way. -/
theorem Group.Passed.meetsSwitch_le {x y : Group} {e n target : Instant} {k : Nat} (h : x.Passed y e n k)
    (order : distance e n ≤ distance e target) (near : distance e target ≤ 2147483647) (pos : 1 ≤ distance e n) :
    (y.meetsSwitch n target).toNat ≤ (x.meetsSwitch e target).toNat := by
  refine Bool.toNat_le_of_imp fun meets => ?_
  obtain ⟨a, armed, ahead, short⟩ := Group.meetsSwitch_iff.mp meets
  rw [distance_from order] at short
  refine Group.meetsSwitch_iff.mpr ⟨a, (h.armed a armed).1, ?_⟩
  have back : distance e a.switchAt = distance e n + distance n a.switchAt := by
    have small : distance e n + distance n a.switchAt < 4294967296 := by omega
    unfold distance at small ⊢; bv_omega
  omega

/-- An advance with a move left for everything it may meet brings the cursor to its target, past every open row before it (R71, R94). -/
theorem State.advanceTo_reaches (g : GroupId) (target : Instant) (fuel : Nat) (s : State) {e : Instant}
    (set : (s.group g).cursor = some e) (near : distance e target ≤ 2147483647)
    (rows : ∀ r ∈ (s.group g).rows, distance e r.instant ≤ 2147483647)
    (enough : e ≠ target → (s.group g).advanceLeft e target ≤ fuel) :
    ((State.advanceTo g target fuel s).group g).cursor = some target ∧
      ∀ r ∈ ((State.advanceTo g target fuel s).group g).rows, before r.instant target = false := by
  have arrived : ∀ {f : Nat} {t : State}, (t.group g).cursor = some target →
      (∀ r ∈ (t.group g).rows, distance target r.instant ≤ 2147483647) →
      ((State.advanceTo g target f t).group g).cursor = some target ∧
        ∀ r ∈ ((State.advanceTo g target f t).group g).rows, before r.instant target = false := fun {f t} set rows => by
    rw [State.advanceTo_of_reached set (by simp [before])]
    refine ⟨set, fun r open_ => Bool.eq_false_iff.mpr fun ahead => ?_⟩
    have := before_iff_distance.mp ahead
    have := rows r open_
    unfold distance at *
    bv_omega
  induction fuel generalizing s e with
  | zero =>
    by_cases there : e = target
    · subst there; exact arrived set rows
    · have none := enough there
      exfalso
      cases row : (s.group g).rowAt e with
      | none => simp [Group.advanceLeft, row] at none
      | some r =>
        have := List.length_pos_of_mem (Group.rowAt_eq_some row).1
        simp only [Group.advanceLeft] at none
        omega
  | succ fuel ih =>
    by_cases there : e = target
    · subst there; exact arrived set rows
    · have left := enough there
      have pos : 1 ≤ distance e target := Nat.one_le_iff_ne_zero.mpr fun zero => there (distance_eq_zero_iff.mp zero).symm
      have ahead : before e target = true := before_iff_distance.mpr ⟨pos, near⟩
      cases row : (s.group g).rowAt e with
      | some r =>
        rw [State.advanceTo_of_row set ahead row]
        obtain ⟨open_, rfl⟩ := Group.rowAt_eq_some row
        have passed := State.passed_closeRow set ((s.group g).forcedReason r)
        have order : distance r.instant (r.instant + 1) ≤ distance r.instant target := by rw [distance_succ_self]; exact pos
        refine ih _ passed.cursor (by rw [distance_from order]; omega) (fun y hy => ?_) fun _ => ?_
        · rw [passed.rows] at hy
          obtain ⟨hy, other⟩ := List.mem_filter.mp hy
          have far : distance r.instant (r.instant + 1) ≤ distance r.instant y.instant := by
            rw [distance_succ_self]
            exact Nat.one_le_iff_ne_zero.mpr fun zero => by simp [distance_eq_zero_iff.mp zero] at other
          have := rows y hy
          rw [distance_from far]; omega
        · have fewer : ((s.group g).rows.filter fun y => y.instant != r.instant).length < (s.group g).rows.length :=
            List.length_filter_lt_length_iff_exists.mpr ⟨r, open_, by simp⟩
          have switch := passed.meetsSwitch_le order near (by rw [distance_succ_self])
          have one : (((s.closeRow g r ((s.group g).forcedReason r)).group g).rowAt (r.instant + 1)).isNone.toNat ≤ 1 := Bool.toNat_le _
          simp only [Group.advanceLeft, passed.rows, row] at left ⊢
          simp only [Group.meetsSwitch] at switch left ⊢
          omega
      | none =>
        rw [State.advanceTo_of_run set ahead row]
        have len : (s.group g).runLength e target ≤ distance e target := nearest_le _ _ _
        obtain ⟨k, passed⟩ := State.passed_passRun (s := s) (g := g) (len := (s.group g).runLength e target) set (by omega)
        have far := distance_add (e := e) (len := (s.group g).runLength e target) (by omega)
        have empty : ∀ r ∈ (s.group g).rows, r.instant ≠ e := Group.rowAt_eq_none_iff.mp row
        have beyond : ∀ r ∈ (s.group g).rows, distance (e + BitVec.ofNat 32 ((s.group g).runLength e target)) r.instant ≤ 2147483647 :=
          fun r open_ => by
            have := Group.runLength_le_row (target := target) open_ (empty r open_)
            have := rows r open_
            rw [distance_from (e := e) (by omega)]; omega
        refine ih _ passed.cursor (by rw [distance_from (e := e) (by omega)]; omega) (by rw [passed.rows]; exact beyond) fun short => ?_
        have switch := passed.meetsSwitch_le (target := target) (by omega) near (by rw [far]; exact Group.runLength_pos pos)
        have keep : (((s.passRun g e ((s.group g).runLength e target)).group g).rowAt
            (e + BitVec.ofNat 32 ((s.group g).runLength e target))).isNone.toNat ≤ 1 := Bool.toNat_le _
        simp only [Group.advanceLeft, passed.rows, row] at left ⊢
        simp only [Option.isNone_none, Bool.toNat_true] at left
        rcases nearest_attained e (distance e target) (s.group g).stops with limit | ⟨n, stop, -, attained⟩
        · refine absurd (distance_inj (e := e) ?_) short
          rw [far, Group.runLength, limit]
        · obtain rfl : n = e + BitVec.ofNat 32 ((s.group g).runLength e target) := distance_inj (e := e) (by rw [far]; exact attained.symm)
          rcases Group.mem_stops.mp stop with ⟨r, open_, at_⟩ | ⟨a, armed, at_⟩
          · have found : (((s.passRun g e ((s.group g).runLength e target)).group g).rowAt
                (e + BitVec.ofNat 32 ((s.group g).runLength e target))).isNone = false := by
              rw [Bool.eq_false_iff, ne_eq, Option.isNone_iff_eq_none, Group.rowAt_eq_none_iff, passed.rows]
              exact fun none => none r open_ at_
            rw [found, Bool.toNat_false]
            omega
          · have meets : (s.group g).meetsSwitch e target = true := by
              refine Group.meetsSwitch_iff.mpr ⟨a, armed, ?_⟩
              rw [at_, far]
              refine ⟨Group.runLength_pos pos, lt_of_le_of_ne len fun limit => short (distance_inj (e := e) ?_)⟩
              rw [far, limit]
            have gone : ((s.passRun g e ((s.group g).runLength e target)).group g).meetsSwitch
                (e + BitVec.ofNat 32 ((s.group g).runLength e target)) target = false := by
              rw [Bool.eq_false_iff, ne_eq, Group.meetsSwitch_iff]
              rintro ⟨b, armed', -⟩
              obtain ⟨same, notReached⟩ := passed.armed b armed'
              rw [armed] at same
              cases same
              refine notReached ⟨before_iff_distance.mpr ?_, by rw [at_]; simp [atOrAfter]⟩
              rw [at_, far]
              exact ⟨Group.runLength_pos pos, by omega⟩
            rw [meets] at left
            rw [gone]
            simp only [Bool.toNat_true, Bool.toNat_false] at left ⊢
            omega

end Sys2Proof.Machine
end


section
/-! The forced advance as a chain of moves that leans on the count taken before it (R71, R94, R97): the records it places are no more than
the instants before the target that have an open row or, under EMIT, a due slot. -/

namespace Sys2Proof.Machine

-- One after another, as in the tests: many proofs checked at once would each hold a thread.
set_option Elab.async false

/-! ### Instants that place a record -/

/-- An advance over instant `n` places a record: an open row's, or under EMIT one of fills (R71). -/
def Group.places (x : Group) (n : Instant) : Bool :=
  (x.rowAt n).isSome || (x.empty == .emit && dueCount (x.templates.governing n).2 n != 0)

/-- How many of the `len` instants from `e` on place a record. -/
def Group.placesAhead (x : Group) (e : Instant) (len : Nat) : Nat :=
  ((List.range len).filter fun i => x.places (e + BitVec.ofNat 32 i)).length

/-- The frame queue has room for the records of the `len` instants from `e` on. -/
def Group.Fits (x : Group) (e : Instant) (len : Nat) : Prop := x.queue.length + x.placesAhead e len ≤ 8

section
variable {x y : Group} {e n : Instant}

theorem Group.placesAhead_add (x : Group) (e : Instant) (a b : Nat) :
    x.placesAhead e (a + b) = x.placesAhead e a + x.placesAhead (e + BitVec.ofNat 32 a) b := by
  simp only [Group.placesAhead, List.range_add, List.filter_append, List.length_append, List.filter_map, List.length_map,
    Function.comp_def, BitVec.ofNat_add, BitVec.add_assoc]

theorem Group.placesAhead_one (x : Group) (e : Instant) : x.placesAhead e 1 = (x.places e).toNat := by
  cases h : x.places e <;> simp [Group.placesAhead, List.range_succ, h]

theorem Group.placesAhead_congr {len : Nat} (same : ∀ i, i < len → y.places (n + BitVec.ofNat 32 i) = x.places (n + BitVec.ofNat 32 i)) :
    y.placesAhead n len = x.placesAhead n len := by
  unfold Group.placesAhead
  rw [List.filter_congr fun i hi => same i (List.mem_range.mp hi)]

/-- What lies beyond a run is placed after it as before it. -/
theorem Group.Passed.placesAhead {a b k : Nat} (h : x.Passed y e (e + BitVec.ofNat 32 a) k)
    (beyond : x.SwitchBeyond e (e + BitVec.ofNat 32 a)) (near : a + b ≤ 2147483647) :
    y.placesAhead (e + BitVec.ofNat 32 a) b = x.placesAhead (e + BitVec.ofNat 32 a) b := by
  refine Group.placesAhead_congr fun i hi => ?_
  have far : distance e (e + BitVec.ofNat 32 a + BitVec.ofNat 32 i) = a + i := by
    rw [BitVec.add_assoc, ← BitVec.ofNat_add, distance_add (by omega)]
  have governs := h.governing beyond (e + BitVec.ofNat 32 a + BitVec.ofNat 32 i) (by rw [distance_add (by omega), far]; omega)
    (by rw [far]; omega)
  simp only [Group.places, Group.rowAt, h.rows, h.empty, governs]

/-- A run that places a record for each instant that asks for one leaves room for the rest. -/
theorem Group.Fits.run {a b k : Nat} (fits : x.Fits e (a + b)) (h : x.Passed y e (e + BitVec.ofNat 32 a) k)
    (placed : k ≤ x.placesAhead e a) (beyond : x.SwitchBeyond e (e + BitVec.ofNat 32 a)) (near : a + b ≤ 2147483647) :
    y.Fits (e + BitVec.ofNat 32 a) b := by
  have split := x.placesAhead_add e a b
  unfold Group.Fits at *
  rw [h.placesAhead beyond near, h.queue]
  omega

/-- The ACTIVE bank governs what lies before S. -/
theorem Group.SwitchBeyond.governing (beyond : x.SwitchBeyond e n) : x.templates.governing e = (x.templates.activeGen, x.templates.activeSlots) := by
  cases armed : x.templates.armed with
  | none => exact Templates.governing_of_not_armed armed e
  | some a =>
    refine Templates.governing_of_short armed (Bool.eq_false_iff.mpr fun reached => ?_)
    obtain ⟨ahead, -⟩ := beyond a armed
    have := (atOrAfter_iff_distance ahead (by rw [distance_self]; omega)).mp reached
    have := (before_iff_distance.mp ahead).1
    rw [distance_self] at *
    omega

theorem Group.places_of_needsPlace (beyond : x.SwitchBeyond e n) (needs : x.needsPlace e = true) : x.places e = true := by
  simp only [Group.places, beyond.governing]
  simp only [Group.needsPlace] at needs
  simp [needs]

/-- The queue has a place where the next instant places a record. -/
theorem Group.Fits.free {len : Nat} (fits : x.Fits e (1 + len)) (places : x.places e = true) : x.queue.length < 8 := by
  have split := x.placesAhead_add e 1 len
  rw [x.placesAhead_one, places, Bool.toNat_true] at split
  unfold Group.Fits at fits
  omega

end

/-! ### The advance -/

section
variable {pieces windows room : Prop} {s : State} {g : GroupId} {e : Instant}

/-- A run of empty instants under EMIT, passed one by one (R85). -/
theorem State.moves_passEach {len more : Nat} (needs : room → windows) (set : (s.group g).cursor = some e)
    (free : s.intake = none) (near : len + more ≤ 2147483647) (lawful : windows → s.WindowsLawful)
    (rows : ∀ r ∈ (s.group g).rows, len ≤ distance e r.instant)
    (beyond : windows → (s.group g).SwitchBeyond e (e + BitVec.ofNat 32 len))
    (fits : room → (s.group g).Fits e (len + more)) :
    State.Moves pieces windows room s (State.passEach g len s) ∧
      (room → ((State.passEach g len s).group g).Fits (e + BitVec.ofNat 32 len) more) := by
  induction len generalizing s e with
  | zero => exact ⟨State.Moves.refl s, fun lean => by simpa [State.passEach] using fits lean⟩
  | succ len ih =>
    have first := State.passed_passEmpty set
    have farther : distance e (e + 1) ≤ distance e (e + BitVec.ofNat 32 (len + 1)) := by
      rw [distance_succ_self, distance_add (by omega)]; omega
    have ahead : windows → (s.group g).SwitchBeyond e (e + 1) := fun lean a armed =>
      ⟨(beyond lean a armed).1, farther.trans (beyond lean a armed).2⟩
    have others : ∀ r ∈ (s.group g).rows, r.instant ≠ e := fun r open_ same => by
      have := rows r open_
      rw [same, distance_self] at this
      omega
    have step : State.Moves pieces windows room s (s.passEmpty g e) :=
      State.moves_passEmpty set
        (fun lean => (lawful lean).mayStep set others fun w waits => by rw [free] at waits; cases waits)
        fun lean need => by
          have fits := fits lean
          rw [show len + 1 + more = 1 + (len + more) by omega] at fits
          exact fits.free (Group.places_of_needsPlace (ahead (needs lean)) need)
    have onward := ih (s := s.passEmpty g e) (e := e + 1) first.cursor (by simp [free]) (by omega)
      (fun lean => State.Moves.keeps (fun _ _ move => move.keepsWindows lean) step (lawful lean))
      (fun r open_ => by
        rw [first.rows] at open_
        have := rows r open_
        rw [distance_from (e := e) (by rw [distance_succ_self]; omega), distance_succ_self]; omega)
      (fun lean => by
        rw [succ_add_ofNat]
        exact first.switchBeyond farther (by rw [distance_add (by omega)]; omega) (beyond lean))
      fun lean => by
        have fits := fits lean
        rw [show len + 1 + more = 1 + (len + more) by omega] at fits
        refine fits.run (a := 1) first ?_ (ahead (needs lean)) (by omega)
        rw [Group.placesAhead_one]
        split
        · next need => rw [Group.places_of_needsPlace (ahead (needs lean)) need]; rfl
        · exact Nat.zero_le _
    rw [succ_add_ofNat] at onward
    rw [State.passEach, set]
    exact ⟨step.trans onward.1, onward.2⟩

/-- A run of empty instants (R83 to R85, R94). -/
theorem State.moves_passRun {len more : Nat} (needs : room → windows) (set : (s.group g).cursor = some e)
    (free : s.intake = none) (near : len + more ≤ 2147483647) (lawful : windows → s.WindowsLawful)
    (rows : ∀ r ∈ (s.group g).rows, len ≤ distance e r.instant)
    (beyond : windows → (s.group g).SwitchBeyond e (e + BitVec.ofNat 32 len))
    (fits : room → (s.group g).Fits e (len + more)) :
    State.Moves pieces windows room s (s.passRun g e len) ∧
      (room → ((s.passRun g e len).group g).Fits (e + BitVec.ofNat 32 len) more) := by
  unfold State.passRun
  dsimp only
  split
  · refine ⟨State.moves_skipInstants (fun lean => ?_) _, fun lean => ?_⟩
    · refine State.mayMoveTo_run set (by omega) rows (fun a armed => ?_) fun w waits => by rw [free] at waits; cases waits
      have := (beyond lean a armed).2
      rwa [distance_add (by omega)] at this
    · exact (fits lean).run (State.passed_skipInstants set (by omega) _) (Nat.zero_le _) (beyond (needs lean)) near
  · exact State.moves_passEach needs set free near lawful rows beyond fits

/-- A row that closes leaves room for what lies beyond it. -/
theorem State.fits_closeRow {r : Row} {len : Nat} (set : (s.group g).cursor = some r.instant) (row : (s.group g).rowAt r.instant = some r)
    (beyond : (s.group g).SwitchBeyond r.instant (r.instant + 1)) (near : 1 + len ≤ 2147483647)
    (fits : (s.group g).Fits r.instant (1 + len)) (reason : CloseReason) : ((s.closeRow g r reason).group g).Fits (r.instant + 1) len := by
  have passed := State.passed_closeRow set reason
  have after := passed.placesAhead (a := 1) (b := len) beyond near
  have same : ({ s.group g with rows := (s.group g).rows.filter fun y => y.instant != r.instant } : Group).placesAhead
      (r.instant + 1) len = (s.group g).placesAhead (r.instant + 1) len := by
    refine Group.placesAhead_congr fun i hi => ?_
    have other : r.instant + 1 + BitVec.ofNat 32 i ≠ r.instant := fun back => by
      have := distance_add (e := r.instant) (len := i + 1) (by omega)
      rw [← succ_add_ofNat, back, distance_self] at this
      omega
    have rowAt : ((s.group g).rows.filter fun y => y.instant != r.instant).find? (fun y => y.instant == r.instant + 1 + BitVec.ofNat 32 i) =
        (s.group g).rows.find? fun y => y.instant == r.instant + 1 + BitVec.ofNat 32 i := by
      rw [List.find?_filter]
      congr 1
      funext y
      cases at_ : y.instant == r.instant + 1 + BitVec.ofNat 32 i with
      | false => simp
      | true => rw [beq_iff_eq.mp at_, bne_iff_ne.mpr other]; rfl
    simp only [Group.places, Group.rowAt, rowAt]
  have split := (s.group g).placesAhead_add r.instant 1 len
  have here : (s.group g).places r.instant = true := by simp [Group.places, row]
  rw [Group.placesAhead_one, here, Bool.toNat_true] at split
  have queue := passed.queue
  unfold Group.Fits at *
  change _ + ((s.closeRow g r reason).group g).placesAhead (r.instant + BitVec.ofNat 32 1) len ≤ 8
  rw [after]
  change _ + ({ s.group g with rows := (s.group g).rows.filter fun y => y.instant != r.instant } : Group).placesAhead (r.instant + 1) len ≤ 8
  rw [same, queue]
  change (s.group g).placesAhead r.instant (1 + len) = 1 + (s.group g).placesAhead (r.instant + 1) len at split
  change (s.group g).queue.length + 1 + _ ≤ 8
  omega

/-- The forced advance (R94). -/
theorem State.moves_advanceTo (needs : room → windows) (g : GroupId) (target : Instant) (fuel : Nat) (s : State)
    (free : s.intake = none) (lawful : windows → s.WindowsLawful)
    (fits : room → ∀ e, (s.group g).cursor = some e → before e target = true → (s.group g).Fits e (distance e target)) :
    State.Moves pieces windows room s (State.advanceTo g target fuel s) := by
  induction fuel generalizing s with
  | zero => exact State.Moves.refl s
  | succ fuel ih =>
    have onward : ∀ {t : State} {n : Instant}, State.Moves pieces windows room s t → t.intake = none → (t.group g).cursor = some n →
        (room → before n target = true → (t.group g).Fits n (distance n target)) →
        State.Moves pieces windows room s (State.advanceTo g target fuel t) := fun moves free set fits =>
      moves.trans (ih _ free (fun lean => State.Moves.keeps (fun _ _ move => move.keepsWindows lean) moves (lawful lean))
        fun lean e set' ahead => by rw [set] at set'; cases set'; exact fits lean ahead)
    cases set : (s.group g).cursor with
    | none => simp only [State.advanceTo, set]; exact State.Moves.refl s
    | some e =>
      cases ahead : before e target with
      | false => rw [State.advanceTo_of_reached set ahead]; exact State.Moves.refl s
      | true =>
        obtain ⟨pos, near⟩ := before_iff_distance.mp ahead
        have switch : windows → ∀ a, (s.group g).templates.armed = some a → before e a.switchAt = true := fun lean a armed =>
          ((lawful lean).placed g).ahead set armed
        cases row : (s.group g).rowAt e with
        | some r =>
          rw [State.advanceTo_of_row set ahead row]
          obtain ⟨open_, rfl⟩ := Group.rowAt_eq_some row
          have rest : distance (r.instant + 1) target = distance r.instant target - 1 := by
            rw [distance_from (e := r.instant) (by rw [distance_succ_self]; exact pos), distance_succ_self]
          have room1 : room → (s.group g).Fits r.instant (1 + (distance r.instant target - 1)) := fun lean => by
            rw [Nat.add_sub_cancel' pos]; exact fits lean _ set ahead
          refine onward (State.moves_closeRow set open_ lawful (fun lean => ?_) _) (by simp [free])
            (State.passed_closeRow set _).cursor fun lean _ => ?_
          · exact (room1 lean).free (by simp [Group.places, row])
          · rw [rest]
            refine State.fits_closeRow set row (fun a armed => ?_) (by omega) (room1 lean) _
            have := switch (needs lean) a armed
            exact ⟨this, by rw [distance_succ_self]; exact (before_iff_distance.mp this).1⟩
        | none =>
          rw [State.advanceTo_of_run set ahead row]
          have len : (s.group g).runLength e target ≤ distance e target := nearest_le _ _ _
          have far := distance_add (e := e) (len := (s.group g).runLength e target) (by omega)
          have total : (s.group g).runLength e target + (distance e target - (s.group g).runLength e target) = distance e target :=
            Nat.add_sub_cancel' len
          obtain ⟨moves, after⟩ := State.moves_passRun (pieces := pieces)
            (len := (s.group g).runLength e target) (more := distance e target - (s.group g).runLength e target) needs set free (by omega) lawful
            (fun r open_ => Group.runLength_le_row open_ (Group.rowAt_eq_none_iff.mp row r open_))
            (fun lean a armed => ⟨switch lean a armed, by
              rw [far]; exact Group.runLength_le_switch armed (switch lean a armed)⟩)
            (fun lean => by rw [total]; exact fits lean e set ahead)
          obtain ⟨k, passed⟩ := State.passed_passRun (s := s) (g := g) (len := (s.group g).runLength e target) set (by omega)
          refine onward moves (by simp [free]) passed.cursor fun lean _ => ?_
          rw [distance_from (e := e) (by rw [far]; exact len), far]
          exact after lean

end

end Sys2Proof.Machine
end


section
/-! The count taken before a forced advance (R71): it is the number of instants of [E, E') that place a record, so that an advance that
finds as many places free has room for every record it makes. -/

namespace Sys2Proof.Machine

-- One after another, as in the tests: many proofs checked at once would each hold a thread.
set_option Elab.async false

theorem length_filter_or_add_and {α : Type} (p q : α → Bool) (l : List α) :
    (l.filter fun a => p a || q a).length + (l.filter fun a => p a && q a).length = (l.filter p).length + (l.filter q).length := by
  induction l with
  | nil => rfl
  | cons a l ih => cases hp : p a <;> cases hq : q a <;> simp only [List.filter_cons, hp, hq, Bool.or_true, Bool.or_false, Bool.and_true,
      Bool.and_false, Bool.false_eq_true, if_true, if_false, List.length_cons] <;> omega

section
variable {x : Group} {e target : Instant} {len : Nat}

/-- The instants of a stretch that have an open row, counted along the stretch and counted by the rows. -/
theorem Group.count_rows (nodup : (x.rows.map Row.instant).Nodup) (near : len ≤ 2147483647) (q : Instant → Bool) :
    ((List.range len).filter fun i => (x.rowAt (e + BitVec.ofNat 32 i)).isSome && q (e + BitVec.ofNat 32 i)).length =
      (x.rows.filter fun r => decide (distance e r.instant < len) && q r.instant).length := by
  have offset : ∀ {i : Nat}, i < len → distance e (e + BitVec.ofNat 32 i) = i := fun hi => distance_add (by omega)
  have perm : ((List.range len).filter fun i => (x.rowAt (e + BitVec.ofNat 32 i)).isSome && q (e + BitVec.ofNat 32 i)).Perm
      ((x.rows.filter fun r => decide (distance e r.instant < len) && q r.instant).map fun r => distance e r.instant) := by
    refine (List.perm_ext_iff_of_nodup (List.nodup_range.filter _) ?_).mpr fun i => ?_
    · have distances : (x.rows.map fun r => distance e r.instant).Nodup := by
        rw [show (fun r : Row => distance e r.instant) = distance e ∘ Row.instant from rfl, ← List.map_map]
        exact nodup.map fun a b same => distance_inj same
      exact distances.sublist (List.filter_sublist.map _)
    · simp only [List.mem_filter, List.mem_range, List.mem_map, Bool.and_eq_true, decide_eq_true_eq, Option.isSome_iff_exists]
      constructor
      · rintro ⟨hi, ⟨r, row⟩, hq⟩
        obtain ⟨open_, same⟩ := Group.rowAt_eq_some row
        refine ⟨r, ⟨open_, ?_, by rw [same]; exact hq⟩, ?_⟩ <;> rw [same, offset hi]
        exact hi
      · rintro ⟨r, ⟨open_, hi, hq⟩, rfl⟩
        have same : e + BitVec.ofNat 32 (distance e r.instant) = r.instant := distance_inj (offset hi)
        refine ⟨hi, ?_, by rw [same]; exact hq⟩
        rw [same]
        cases row : x.rowAt r.instant with
        | none => exact absurd rfl (Group.rowAt_eq_none_iff.mp row r open_)
        | some y => exact ⟨y, rfl⟩
  rw [perm.length_eq, List.length_map]

/-- The instants of [E, E') with a due slot in their governing bank (R71). -/
theorem Group.dueBefore_eq (banks : x.templates.Lawful) (near : distance e target ≤ 2147483647)
    (ahead : ∀ a, x.templates.armed = some a → before e a.switchAt = true) :
    x.dueBefore e target = ((List.range (distance e target)).filter fun i =>
      dueCount (x.templates.governing (e + BitVec.ofNat 32 i)).2 (e + BitVec.ofNat 32 i) != 0).length := by
  obtain ⟨⟨-, active, -⟩, ⟨-, other, -⟩, -⟩ := banks
  have underActive : ∀ len, (∀ i, i < len → x.templates.governing (e + BitVec.ofNat 32 i) = (x.templates.activeGen, x.templates.activeSlots)) →
      dueInstants x.templates.activeSlots e len = ((List.range len).filter fun i =>
        dueCount (x.templates.governing (e + BitVec.ofNat 32 i)).2 (e + BitVec.ofNat 32 i) != 0).length := fun len governs => by
    rw [dueInstants_eq active, dueAmong]
    refine congrArg List.length (List.filter_congr fun i hi => ?_)
    rw [governs i (List.mem_range.mp hi)]
  cases armed : x.templates.armed with
  | none =>
    simp only [Group.dueBefore, armed]
    exact underActive _ fun i _ => Templates.governing_of_not_armed armed _
  | some a =>
    have switch := ahead a armed
    have short : ∀ i, i < distance e a.switchAt → i < distance e target →
        x.templates.governing (e + BitVec.ofNat 32 i) = (x.templates.activeGen, x.templates.activeSlots) := fun i hs ht => by
      have offset := distance_add (e := e) (len := i) (by omega)
      refine Templates.governing_of_short armed (Bool.eq_false_iff.mpr fun reached => ?_)
      have := (atOrAfter_iff_distance switch (by omega)).mp reached
      omega
    simp only [Group.dueBefore, armed]
    split
    · next within =>
      obtain ⟨k, hk⟩ : ∃ k, distance e target = distance e a.switchAt + k := ⟨_, (Nat.add_sub_cancel' (by omega)).symm⟩
      have rest : distance a.switchAt target = k := by rw [distance_from (e := e) (by omega)]; omega
      have start : e + BitVec.ofNat 32 (distance e a.switchAt) = a.switchAt := distance_inj (distance_add (by omega))
      rw [underActive _ fun i hi => short i hi (by omega), rest, dueInstants_eq other, dueAmong, hk, List.range_add, List.filter_append,
        List.length_append, List.filter_map, List.length_map]
      refine congrArg _ (congrArg List.length (List.filter_congr fun i hi => ?_))
      have offset := distance_add (e := e) (len := distance e a.switchAt + i) (by have := List.mem_range.mp hi; omega)
      have reached : atOrAfter (e + BitVec.ofNat 32 (distance e a.switchAt + i)) a.switchAt = true :=
        (atOrAfter_iff_distance switch (by have := List.mem_range.mp hi; omega)).mpr (by omega)
      rw [Function.comp_apply, Templates.governing_of_reached armed reached, BitVec.ofNat_add, ← BitVec.add_assoc, start]
    · exact underActive _ fun i hi => short i (by omega) hi

/-- An advance places no more records than the count taken before it (R71). -/
theorem Group.placesAhead_le_framesNeeded (banks : x.templates.Lawful) (nodup : (x.rows.map Row.instant).Nodup)
    (near : distance e target ≤ 2147483647) (ahead : ∀ a, x.templates.armed = some a → before e a.switchAt = true) :
    x.placesAhead e (distance e target) ≤ x.framesNeeded e target := by
  have rows := x.count_rows (e := e) nodup near fun _ => true
  simp only [Bool.and_true] at rows
  cases empty : x.empty with
  | skip =>
    simp only [Group.placesAhead, Group.places, Group.framesNeeded, Group.rowsBefore, empty,
      (by decide : (EmptyPolicy.skip == EmptyPolicy.emit) = false), Bool.false_and, Bool.or_false]
    exact rows.le
  | emit =>
    have both := x.count_rows (e := e) nodup near fun n => dueCount (x.templates.governing n).2 n != 0
    have split := length_filter_or_add_and (fun i => (x.rowAt (e + BitVec.ofNat 32 i)).isSome)
      (fun i => dueCount (x.templates.governing (e + BitVec.ofNat 32 i)).2 (e + BitVec.ofNat 32 i) != 0) (List.range (distance e target))
    rw [both, rows, ← Group.dueBefore_eq banks near ahead] at split
    simp only [Group.placesAhead, Group.places, Group.framesNeeded, Group.rowsBefore, empty, List.filter_filter,
      (by decide : (EmptyPolicy.emit == EmptyPolicy.emit) = true), Bool.true_and]
    simp only [Bool.and_comm (decide _)] at split ⊢
    omega

end

/-- An advance that the close unit takes has room for every record it places (R71, R97). -/
theorem Group.fits_of_framesNeeded {x : Group} {e target : Instant} (placed : x.Placed) (banked : x.Banked) (set : x.cursor = some e)
    (bounded : x.queue.length ≤ 8) (ahead : before e target = true) (room : x.framesNeeded e target ≤ x.freePlaces) :
    x.Fits e (distance e target) := by
  have needed := Group.placesAhead_le_framesNeeded (target := target) banked.templates placed.instants_nodup
    (before_iff_distance.mp ahead).2 fun a armed => placed.ahead set armed
  unfold Group.freePlaces at room
  unfold Group.Fits
  omega

end Sys2Proof.Machine
end


section
/-! The arrivals as chains of moves (R63 to R75), and the forced advance with the message that waits for it (R71, R94). -/

namespace Sys2Proof.Machine

-- One after another, as in the tests: many proofs checked at once would each hold a thread.
set_option Elab.async false

/-! ### What an advance keeps of its group -/

/-- A forced advance keeps the group's state and its window depth. -/
theorem State.advanceTo_state_depth (g : GroupId) (target : Instant) (fuel : Nat) (s : State) :
    ((State.advanceTo g target fuel s).group g).state = (s.group g).state ∧
      ((State.advanceTo g target fuel s).group g).depth = (s.group g).depth := by
  induction fuel generalizing s with
  | zero => exact ⟨rfl, rfl⟩
  | succ fuel ih =>
    cases set : (s.group g).cursor with
    | none => simp only [State.advanceTo, set, and_self]
    | some e =>
      cases ahead : before e target with
      | false => rw [State.advanceTo_of_reached set ahead]; exact ⟨rfl, rfl⟩
      | true =>
        cases row : (s.group g).rowAt e with
        | some r =>
          obtain ⟨-, rfl⟩ := Group.rowAt_eq_some row
          have passed := State.passed_closeRow set ((s.group g).forcedReason r)
          rw [State.advanceTo_of_row set ahead row, (ih _).1, (ih _).2]
          exact ⟨passed.state, passed.depth⟩
        | none =>
          have len : (s.group g).runLength e target ≤ distance e target := nearest_le _ _ _
          have near := (before_iff_distance.mp ahead).2
          obtain ⟨k, passed⟩ := State.passed_passRun (s := s) (g := g) (len := (s.group g).runLength e target) set (by omega)
          rw [State.advanceTo_of_run set ahead row, (ih _).1, (ih _).2]
          exact ⟨passed.state, passed.depth⟩

/-! ### Steps 10 to 14 -/

theorem find_insertRow {e : Instant} {r : Row} {rows : List Row} (fresh : ∀ x ∈ rows, x.instant ≠ r.instant) :
    (insertRow e r rows).find? (fun x => x.instant == r.instant) = some r := by
  induction rows with
  | nil => simp [insertRow]
  | cons x xs ih =>
    rw [insertRow]
    split
    · simp
    · rw [List.find?_cons_of_neg (by simpa using fresh x (List.mem_cons_self ..))]
      exact ih fun y hy => fresh y (List.mem_cons_of_mem x hy)

/-- A row just opened references no cell. -/
theorem State.newRow_absent (s : State) (g : GroupId) (rid : RowId) (n : Instant) (gen : Generation) (k : Nat) :
    ((s.newRow g rid n gen).slotMap[k]?).join = none := by
  rw [State.newRow, List.getElem?_replicate]
  split <;> rfl

theorem Group.judgeSlot_congr {x y : Group} (governs : y.templates.governing n = x.templates.governing n) (i : StreamId) :
    y.judgeSlot n i = x.judgeSlot n i := by
  simp only [Group.judgeSlot, governs]

/-- The switch that a cursor move to `n` takes leaves `n` under the list that governed it (R41, R51). -/
theorem State.judgeSlot_moveCursor {s : State} {g : GroupId} {n : Instant} (i : StreamId) :
    ((s.moveCursor g n).group g).judgeSlot n i = (s.group g).judgeSlot n i := by
  refine Group.judgeSlot_congr ?_ i
  rw [State.moveCursor_group_self]
  by_cases switches : (s.group g).switchesAt n = true
  · obtain ⟨e, a, -, armed, -, reached⟩ := Group.switchesAt_iff.mp switches
    rw [if_pos switches, Templates.governing_of_reached armed reached, Templates.switched_of_armed armed,
      Templates.governing_of_not_armed rfl]
    rfl
  · rw [if_neg switches]

section
variable {pieces windows room : Prop} {s : State} {g : GroupId} {n : Instant} {k : Nat} {gen : Generation} {m : SampleMsg}

theorem State.quiet_attemptIfRipe (s : State) (g : GroupId) (n : Instant) : s.Quiet (s.attemptIfRipe g n) := by
  rw [State.attemptIfRipe_eq]
  split
  · exact s.quiet_modGroup ⟨rfl, id, id⟩
  · exact State.Quiet.refl s

theorem State.quiet_writeCell (s : State) (c : CellId) (payload : List Word) : s.Quiet (s.writeCell c payload) :=
  State.Quiet.of_pieces rfl rfl rfl rfl rfl rfl rfl rfl rfl

theorem State.quiet_exhaustCell (s : State) (g : GroupId) : s.Quiet (s.exhaustCell g) :=
  (s.quiet_countGroup g _ 1).trans (State.quiet_logFault _ _)

theorem State.quiet_exhaustRow (s : State) (g : GroupId) : s.Quiet (s.exhaustRow g) :=
  (s.quiet_countGroup g _ 1).trans (State.quiet_logFault _ _)

theorem State.quiet_takeDuplicate (s : State) (c : CellId) (m : SampleMsg) : s.Quiet (s.takeDuplicate c m) := by
  unfold State.takeDuplicate
  split
  · exact s.quiet_countStream _ _
  · exact (s.quiet_writeCell c _).trans (State.quiet_countStream _ _ _)

/-- Step 13 (R75). -/
theorem State.moves_store {r : Row} (row : (s.group g).rowAt n = some r) (absent : (r.slotMap[k]?).join = none)
    (judged : (s.group g).judgeSlot n m.stream = .found k gen) : State.Moves pieces windows room s (s.store g n k m) := by
  cases free : s.freeCells with
  | nil => rw [State.store_of_no_cell free]; exact (s.quiet_exhaustCell g).moves
  | cons c cs =>
    rw [State.store_of_cell free]
    have written := s.quiet_writeCell c m.payload
    have fill := (State.Move.fillSlot (pieces := pieces) (windows := windows) (room := room) (s := s.writeCell c m.payload)
      free row absent judged).moves
    have late : State.Quiet (({ s.writeCell c m.payload with freeCells := cs } : State).modGroup g fun x => x.fillSlot n k c)
        (({ s with freeCells := cs }.writeCell c m.payload).modGroup g fun x =>
          { x.fillSlot n k c with lateRun := 0, lateLogged := false }) := by
      have ended := State.quiet_modGroup (({ s.writeCell c m.payload with freeCells := cs } : State).modGroup g fun x => x.fillSlot n k c)
        (g := g) (f := fun x => { x with lateRun := 0, lateLogged := false }) ⟨rfl, fun _ => Nat.zero_le _, id⟩
      rwa [State.modGroup_modGroup] at ended
    exact ((written.moves.trans fill).quiet late).quiet
      ((State.quiet_countStream _ _ _).trans (State.quiet_attemptIfRipe _ _ _))

/-- Step 12 (R74). -/
theorem State.moves_openAndStore (free : s.intake = none) (running : (s.group g).state = .running) (fresh : (s.group g).rowAt n = none)
    (judged : (s.group g).judgeSlot n m.stream = .found k gen) (inWindow : windows → (s.group g).InWindow n) :
    State.Moves pieces windows room s (s.openAndStore g n k gen m) := by
  cases cells : s.freeCells with
  | nil => rw [State.openAndStore_of_no_cell cells]; exact (s.quiet_exhaustCell g).moves
  | cons c cs =>
    cases rows : s.freeRows with
    | nil => rw [State.openAndStore_of_no_row (by simp [cells]) rows]; exact (s.quiet_exhaustRow g).moves
    | cons rid rest =>
      have opens := (State.Move.openRow (pieces := pieces) (room := room) rows fresh running free judged inWindow).moves
      have eq : s.openAndStore g n k gen m = (({ s with freeRows := rest } : State).modGroup g fun x =>
          { x with rows := insertRow (x.cursor.getD n) (s.newRow g rid n gen) x.rows }).store g n k m := by
        simp only [State.openAndStore, cells, rows]
      rw [eq]
      refine opens.trans (State.moves_store (r := s.newRow g rid n gen) (gen := gen) ?_ (State.newRow_absent s g rid n gen k) ?_)
      · rw [State.group_modGroup_self]
        exact find_insertRow (r := s.newRow g rid n gen) (Group.rowAt_eq_none_iff.mp fresh)
      · rw [State.group_modGroup_self]
        exact (Group.judgeSlot_congr rfl m.stream).trans judged

/-- Steps 10 to 14, from a place in the window or in a DRAINING group (R72 to R75). -/
theorem State.moves_placeMessage (free : s.intake = none) (active : (s.group g).state.isStopped = false)
    (judged : (s.group g).judgeSlot n m.stream = .found k gen)
    (inWindow : windows → (s.group g).state = .running → (s.group g).InWindow n) :
    State.Moves pieces windows room s (s.placeMessage g n k gen m) := by
  unfold State.placeMessage
  split
  · next r row =>
    split
    · exact (s.quiet_takeDuplicate _ m).moves
    · next absent => exact State.moves_store row absent judged
  · next fresh =>
    split
    · exact (s.quiet_countStream _ _).moves
    · next other =>
      have running : (s.group g).state = .running := by
        cases state : (s.group g).state <;> simp_all [GroupState.isStopped]
      exact State.moves_openAndStore free running fresh judged fun lean => inWindow lean running

/-! ### Steps 7 to 9 -/

theorem State.quiet_discardEarly (s : State) (g : GroupId) (i : StreamId) : s.Quiet (s.discardEarly g i) :=
  (s.quiet_countStream i _).trans (State.quiet_countGroup _ g _ 1)

theorem State.quiet_discardLate (s : State) (g : GroupId) (i : StreamId) : s.Quiet (s.discardLate g i) := by
  have counted := ((s.quiet_countStream i .lateDiscards).trans (State.quiet_countGroup _ g .lateDiscards 1)).trans
    (State.quiet_modGroup _ (g := g) (f := fun x => { x with lateRun := min ((s.group g).lateRun + 1) 64 })
      ⟨rfl, fun _ => Nat.min_le_right _ _, id⟩)
  unfold State.discardLate
  dsimp only
  split
  · exact (counted.trans (State.quiet_logFault _ _)).trans (State.quiet_modGroup _ ⟨rfl, id, id⟩)
  · exact counted

/-- A move of the cursor leaves the intake, and the group's state and depth. -/
theorem State.moveCursor_group_state : ((s.moveCursor g n).group g).state = (s.group g).state := by rw [State.moveCursor_group_self]

/-- The message of a RUNNING group that the cursor has just reached lies at the cursor. -/
theorem State.moveCursor_inWindow (depth : 1 ≤ (s.group g).depth) : ((s.moveCursor g n).group g).InWindow n := by
  rw [State.moveCursor_group_self]
  exact ⟨n, rfl, by rw [distance_self]; exact depth⟩

theorem State.quiet_resynced (s : State) (g : GroupId) (n : Instant) : (s.moveCursor g n).Quiet (s.resync g n) :=
  (State.quiet_logFault _ _).trans (State.quiet_countGroup _ g _ 1)

variable {p : NodeId} {e : Instant}

/-- Step 9 in RUNNING (R70). -/
theorem State.moves_takeEarly (free : s.intake = none) (active : (s.group g).state.isStopped = false)
    (judged : (s.group g).judgeSlot n m.stream = .found k gen) (set : (s.group g).cursor = some e)
    (ahead : distance e n ≤ 2147483647) (lawful : windows → s.WindowsLawful) (early : windows → (s.group g).depth ≤ distance e n) :
    State.Moves pieces windows room s (s.takeEarly p g n k gen m) := by
  unfold State.takeEarly
  split
  · next rows =>
    have synced := s.quiet_resynced g n
    have moves := (State.Move.cursor (pieces := pieces) (windows := windows) (room := room) (s := s) (g := g) (n := n) fun _ =>
      { unset := fun unset => by rw [set] at unset; cases unset
        ahead := fun e' set' => by rw [set] at set'; cases set'; exact ahead
        rows := fun _ _ r open_ => by rw [rows] at open_; cases open_
        switch := fun _ _ _ _ _ => rows
        waiting := fun _ w _ waits => by rw [free] at waits; cases waits }).moves
    refine (moves.quiet synced).trans (State.moves_placeMessage ?_ ?_ ?_ fun lean _ => ?_)
    · rw [synced.intake, State.moveCursor_pieces]; exact free
    · rw [(synced.groups g).state, State.moveCursor_group_state]; exact active
    · rw [Group.judgeSlot_congr (x := (s.moveCursor g n).group g) (by rw [(synced.groups g).templates]), State.judgeSlot_moveCursor]
      exact judged
    · have depth := ((lawful lean).placed g).params.1
      obtain ⟨e', set', near⟩ := State.moveCursor_inWindow (s := s) (g := g) (n := n) (by omega)
      exact ⟨e', by rw [(synced.groups g).cursor]; exact set', by rw [(synced.groups g).depth]; exact near⟩
  · split
    · exact (s.quiet_discardEarly g m.stream).moves
    · refine (State.Move.hold (w := { port := p, msg := m, group := g, instant := n }) fun lean e' set' => ?_).moves
      rw [set] at set'
      cases set'
      refine ⟨ahead, fun r open_ => ?_⟩
      exact (((lawful lean).placed g).near set open_).trans_le (early lean)

/-- Steps 8 and 9 against a set cursor (R57). -/
theorem State.moves_placeAgainst (free : s.intake = none) (active : (s.group g).state.isStopped = false)
    (judged : (s.group g).judgeSlot n m.stream = .found k gen) (set : (s.group g).cursor = some e)
    (lawful : windows → s.WindowsLawful) : State.Moves pieces windows room s (s.placeAgainst p g e n k gen m) := by
  unfold State.placeAgainst position
  by_cases inWindow : distance e n < (s.group g).depth
  · rw [if_pos inWindow]
    exact State.moves_placeMessage free active judged fun _ _ => ⟨e, set, inWindow⟩
  · rw [if_neg inWindow]
    by_cases ahead : distance e n ≤ 2147483647
    · rw [if_pos ahead]
      dsimp only
      split
      · next draining => exact State.moves_placeMessage free active judged fun _ running => by rw [draining] at running; cases running
      · exact State.moves_takeEarly free active judged set ahead lawful fun _ => by omega
    · rw [if_neg ahead]
      exact (s.quiet_discardLate g m.stream).moves

/-- Step 7 (R67), and the steps after it. -/
theorem State.moves_synchronise (free : s.intake = none) (active : (s.group g).state.isStopped = false)
    (judged : (s.group g).judgeSlot n m.stream = .found k gen) (lawful : windows → s.WindowsLawful) :
    State.Moves pieces windows room s (s.synchronise p g n k gen m) := by
  unfold State.synchronise
  split
  · next e set => exact State.moves_placeAgainst free active judged set lawful
  · next unset =>
    split
    · have move := State.Move.cursor (pieces := pieces) (windows := windows) (room := room) (s := s) (g := g) (n := n) fun _ =>
        { unset := fun _ => ⟨active, free⟩
          ahead := fun e' set' => by rw [unset] at set'; cases set'
          rows := fun e' set' => by rw [unset] at set'; cases set'
          switch := fun e' _ set' => by rw [unset] at set'; cases set'
          waiting := fun e' _ set' => by rw [unset] at set'; cases set' }
      refine move.moves.trans (State.moves_placeAgainst ?_ ?_ ?_ ?_ fun lean => move.keepsWindows lean (lawful lean))
      · rw [State.moveCursor_pieces]; exact free
      · rw [State.moveCursor_group_state]; exact active
      · rw [State.judgeSlot_moveCursor]; exact judged
      · rw [State.moveCursor_group_self]
    · next idle =>
      exact State.moves_placeMessage free active judged fun _ running => absurd running idle

/-! ### The classification and the taking (R17, R63) -/

theorem State.moves_classify (s : State) (p : NodeId) (m : SampleMsg) (free : s.intake = none) (lawful : windows → s.WindowsLawful) :
    State.Moves pieces windows room s (s.classify p m) := by
  unfold State.classify
  dsimp only
  split_ifs
  · exact (s.quiet_countNode _ _ _).moves
  · exact (s.quiet_countNode _ _ _).moves
  · exact (s.quiet_countStream _ _).moves
  · split
    · exact (s.quiet_countStream _ _).moves
    · next g _ =>
      unfold State.classifyIn
      split
      · exact (s.quiet_countStream _ _).moves
      · next active =>
        dsimp only
        split
        · exact (s.quiet_countStream _ _).moves
        · exact (s.quiet_countStream _ _).moves
        · next judged => exact State.moves_synchronise free (Bool.eq_false_iff.mpr active) judged lawful

theorem State.moves_takeMessage (s : State) (p : NodeId) (free : s.intake = none) (lawful : windows → s.WindowsLawful) :
    State.Moves pieces windows room s (s.takeMessage p) := by
  unfold State.takeMessage
  split
  · have taken : s.Quiet (({ s with lastNode := p } : State).modNode p NodePort.takeHead) :=
      State.Quiet.trans (t := { s with lastNode := p }) (State.Quiet.of_pieces rfl rfl rfl rfl rfl rfl rfl rfl rfl)
        (State.quiet_modNode _ NodePort.Lawful.takeHead)
    exact taken.moves.trans (State.moves_classify _ p _ free fun lean => taken.keepsWindows (lawful lean))
  · exact State.Moves.refl s

/-! ### The forced advance (R71, R94) -/

theorem State.moves_placeWaiting {w : WaitingMsg} (free : s.intake = none) (active : (s.group w.group).state.isStopped = false)
    (judged : (s.group w.group).judgeSlot w.instant w.msg.stream = .found k gen)
    (inWindow : windows → (s.group w.group).state = .running → (s.group w.group).InWindow w.instant) :
    State.Moves pieces windows room s (s.placeWaiting w k gen) := by
  unfold State.placeWaiting
  split
  · have drawn : s.Quiet { s with draws := s.draws + 1 } := State.Quiet.of_pieces rfl rfl rfl rfl rfl rfl rfl rfl rfl
    exact drawn.moves.trans (State.moves_placeMessage free active judged inWindow)
  · exact State.moves_placeMessage free active judged inWindow

theorem State.moves_resumeMessage {w : WaitingMsg} (free : s.intake = none) (active : (s.group w.group).state.isStopped = false)
    (inWindow : windows → (s.group w.group).state = .running → (s.group w.group).InWindow w.instant) :
    State.Moves pieces windows room s (s.resumeMessage w) := by
  unfold State.resumeMessage
  split
  · exact (s.quiet_countStream _ _).moves
  · split
    · exact (s.quiet_countStream _ _).moves
    · exact (s.quiet_countStream _ _).moves
    · next judged => exact State.moves_placeWaiting free active judged inWindow

/-- A message that lies no more than 2^31 − 1 ahead of the cursor is in the window once the cursor has reached n − D + 1, or where it is at
or past that instant already (R71). -/
theorem Group.inWindow_of_advance {x y : Group} {e n : Instant} (depth : y.depth = x.depth) (pos : 1 ≤ x.depth) (deep : x.depth ≤ 64)
    (ahead : distance e n ≤ 2147483647)
    (cursor : y.cursor = some (if before e (x.advanceTarget n) = true then x.advanceTarget n else e)) : y.InWindow n := by
  refine ⟨_, cursor, ?_⟩
  rw [depth]
  have depth32 : (BitVec.ofNat 32 x.depth).toNat = x.depth := by rw [BitVec.toNat_ofNat]; omega
  split
  · unfold Group.advanceTarget distance
    bv_omega
  · next reached =>
    by_contra far
    refine reached (before_iff_distance.mpr ?_)
    unfold Group.advanceTarget distance at *
    constructor <;> bv_omega

theorem Group.advanceFrom_eq_some {x : Group} {n e : Instant} (h : x.advanceFrom n = some e) :
    x.cursor = some e ∧ x.state = .running ∧
      (before e (x.advanceTarget n) = true → x.framesNeeded e (x.advanceTarget n) ≤ x.freePlaces) := by
  unfold Group.advanceFrom at h
  split at h
  · cases h
  · next set =>
    split at h
    · next taken => cases h; exact ⟨set, taken⟩
    · cases h

/-- What an advance makes of its cursor: the target where that lay ahead, the old place where it did not (R71, R94). -/
theorem State.advanceTo_cursor {e : Instant} (set : (s.group g).cursor = some e) (placed : (s.group g).Placed) (target : Instant) :
    ((State.advanceTo g target (s.group g).advanceFuel s).group g).cursor = some (if before e target = true then target else e) := by
  split
  · next ahead =>
    refine (State.advanceTo_reaches g target _ s set (before_iff_distance.mp ahead).2 (fun r open_ => ?_) fun _ => ?_).1
    · have := placed.near set open_
      have := placed.params.2.1
      omega
    · have switch : ((s.group g).meetsSwitch e target).toNat ≤ 1 := Bool.toNat_le _
      have row : ((s.group g).rowAt e).isNone.toNat ≤ 1 := Bool.toNat_le _
      unfold Group.advanceLeft Group.advanceFuel
      omega
  · next reached =>
    rw [State.advanceTo_of_reached set (Bool.eq_false_iff.mpr reached)]
    exact set

/-- FORCED_ADVANCE, taken or declined (R71, R95). -/
theorem State.moves_settleAdvance {w : WaitingMsg} (waits : s.intake = some w) (needs : room → windows)
    (lawful : windows → s.WindowsLawful) (bounded : room → s.BanksLawful ∧ s.queuesBounded) :
    State.Moves pieces windows room s (s.settleAdvance w) := by
  have free := State.Move.letGo (pieces := pieces) (windows := windows) (room := room) s
  have lawful' : windows → ({ s with intake := none } : State).WindowsLawful := fun lean => free.keepsWindows lean (lawful lean)
  refine free.moves.trans ?_
  unfold State.settleAdvance
  dsimp only
  split
  · next e taken =>
    obtain ⟨set, running, room'⟩ := Group.advanceFrom_eq_some taken
    have advance := State.moves_advanceTo (pieces := pieces) needs w.group (((s.group w.group).advanceTarget w.instant))
      (s.group w.group).advanceFuel { s with intake := none } rfl lawful' fun lean e' set' ahead => by
        rw [show e' = e from Option.some.inj (set'.symm.trans set)] at *
        exact Group.fits_of_framesNeeded ((lawful (needs lean)).placed w.group) (State.banksLawful_iff.mp (bounded lean).1 w.group)
          set ((bounded lean).2 w.group) ahead (room' ahead)
    have kept := State.advanceTo_state_depth w.group ((s.group w.group).advanceTarget w.instant) (s.group w.group).advanceFuel
      { s with intake := none }
    refine advance.trans ((State.moves_resumeMessage ?_ ?_ fun lean _ => ?_).quiet (State.quiet_handAttempt _ _))
    · simp
    · rw [kept.1]; exact running ▸ rfl
    · have placed := (lawful lean).placed w.group
      exact Group.inWindow_of_advance (x := s.group w.group) kept.2 (by have := placed.params.1; omega) placed.params.2.1
        ((lawful lean).2 w e waits set).1 (State.advanceTo_cursor (s := { s with intake := none }) set placed _)
  · exact (State.quiet_discardEarly _ _ _).moves

/-- ROW_DEADLINE_EXPIRY of an open row (R76). -/
theorem State.moves_expireRow (s : State) (g : GroupId) (r : Row) : State.Moves pieces windows room s (s.expireRow g r) := by
  have expired := (s.quiet_reachTime r.deadline).moves.trans
    (State.Move.expire (pieces := pieces) (windows := windows) (room := room) g r.instant).moves
  unfold State.expireRow
  dsimp only
  split
  · split
    · exact expired.quiet (State.quiet_handAttempt _ _)
    · exact expired
  · exact expired

end

end Sys2Proof.Machine
end


section
/-! The requests as chains of moves: what each one's effects do to the part (R33 to R54, R103 to R110, R141 to R154), and the reply that
joins its port's queue (R140). -/

namespace Sys2Proof.Machine

-- One after another, as in the tests: many proofs checked at once would each hold a thread.
set_option Elab.async false

/-- What every answer keeps while its effects are a chain of moves: the waiting commands, the hold, and each trunk port's link and replies. -/
structure Answer.Acts (pieces windows room : Prop) (s : State) (a : Answer) : Prop where
  moves : State.Moves pieces windows room s a.state
  frame : a.state.pending = s.pending ∧ a.state.hold = s.hold
  link : ∀ q, (a.state.trunk q).link = (s.trunk q).link
  replies : ∀ q, (a.state.trunk q).replies = (s.trunk q).replies

section
variable {pieces windows room : Prop} {s t : State} {g : GroupId} {p : TrunkId} {r : Request} {words : List Word}

theorem State.acts_refuse (s : State) (status : Status) : (s.refuse status).Acts pieces windows room s :=
  ⟨State.Moves.refl s, ⟨rfl, rfl⟩, fun _ => rfl, fun _ => rfl⟩

theorem State.acts_accept (s : State) (words : List Word) : (s.accept words).Acts pieces windows room s :=
  ⟨State.Moves.refl s, ⟨rfl, rfl⟩, fun _ => rfl, fun _ => rfl⟩

/-- An answer whose effects leave the trunk ports alone. -/
theorem Answer.Acts.of_trunks (moves : State.Moves pieces windows room s t) (frame : t.pending = s.pending ∧ t.hold = s.hold) (trunks : t.trunks = s.trunks)
    (words : List Word) : (t.accept words).Acts pieces windows room s :=
  ⟨moves, frame, fun q => by simp [State.accept, State.trunk, trunks], fun q => by simp [State.accept, State.trunk, trunks]⟩

theorem acts_answerForGroup {f : State → GroupId → Answer} (acts : ∀ g, (f s g).Acts pieces windows room s) :
    (answerForGroup f s r).Acts pieces windows room s := by
  unfold answerForGroup
  split
  · split
    · exact s.acts_refuse _
    · exact acts _
  · exact s.acts_refuse _

theorem acts_answerWithoutArguments {a : Answer} (acts : a.Acts pieces windows room s) :
    (answerWithoutArguments a s r).Acts pieces windows room s := by
  unfold answerWithoutArguments
  split
  · exact s.acts_refuse _
  · exact acts

theorem acts_answerForCount {f : State → Nat → Answer} (acts : ∀ k, (f s k).Acts pieces windows room s) :
    (answerForCount f s r).Acts pieces windows room s := by
  unfold answerForCount
  split
  · split
    · exact s.acts_refuse _
    · exact acts _
  · exact s.acts_refuse _

/-! ### Identification, status and faults (R141 to R145, R149 to R154) -/

theorem acts_ping : (actPing s p r).Acts pieces windows room s := by
  rw [actPing_eq]; exact acts_answerWithoutArguments (s.acts_accept _)

theorem acts_portStatus : (actPortStatus s p r).Acts pieces windows room s := by
  rw [actPortStatus_eq]; exact acts_answerWithoutArguments (s.acts_accept _)

theorem acts_reset : (actReset s p r).Acts pieces windows room s := by
  rw [actReset_eq]
  have set : s.Quiet { s with softPending := some p } := State.Quiet.of_pieces rfl rfl rfl rfl rfl rfl rfl rfl rfl
  exact acts_answerWithoutArguments (Answer.Acts.of_trunks set.moves ⟨rfl, rfl⟩ rfl [])

theorem acts_readStream : (actReadStream s p r).Acts pieces windows room s := by
  unfold actReadStream
  split
  · split
    · exact s.acts_accept _
    · exact s.acts_refuse _
  · exact s.acts_refuse _

theorem acts_groupStatus : (actGroupStatus s p r).Acts pieces windows room s :=
  acts_answerForGroup (f := fun s g => s.accept (s.groupWords g)) fun _ => s.acts_accept _

theorem acts_rowList : (actRowList s p r).Acts pieces windows room s := by
  unfold actRowList
  split
  · split
    · exact s.acts_refuse _
    · split
      · exact s.acts_refuse _
      · exact s.acts_accept _
  · exact s.acts_refuse _

theorem acts_templateRead : (actTemplateRead s p r).Acts pieces windows room s := by
  unfold actTemplateRead
  split
  · split
    · exact s.acts_refuse _
    · split_ifs
      · exact s.acts_accept _
      · exact s.acts_accept _
      · exact s.acts_refuse _
  · exact s.acts_refuse _

theorem acts_faultRead : (actFaultRead s p r).Acts pieces windows room s := by
  rw [actFaultRead_eq]; exact acts_answerForCount fun _ => s.acts_accept _

theorem acts_faultTake : (actFaultTake s p r).Acts pieces windows room s := by
  rw [actFaultTake_eq]
  refine acts_answerForCount fun k => ?_
  have removed : s.Quiet { s with log := s.log.remove k } := { State.Quiet.refl s with log := fun h => FaultLog.remove_lawful h k }
  exact Answer.Acts.of_trunks removed.moves ⟨rfl, rfl⟩ rfl _

theorem acts_undefined : (actUndefined s p r).Acts pieces windows room s := s.acts_refuse _

theorem acts_faultMask : (actFaultMask s p r).Acts pieces windows room s := by
  have masked : ∀ m, s.Quiet { s with alertMask := m } := fun m => State.Quiet.of_pieces rfl rfl rfl rfl rfl rfl rfl rfl rfl
  unfold actFaultMask
  split
  · exact s.acts_refuse _
  · split_ifs
    · exact s.acts_accept _
    · exact s.acts_refuse _
    · split
      · next m _ =>
        split
        · exact Answer.Acts.of_trunks (masked (m.setWidth 13)).moves ⟨rfl, rfl⟩ rfl _
        · exact s.acts_refuse _
      · exact s.acts_refuse _
    · exact s.acts_refuse _

/-! ### Settings (R146 to R148) -/

theorem State.quiet_setPorts (s : State) (set : Word) (value : Bool) : s.Quiet (s.setPorts set value) where
  __ := State.Quiet.refl s
  nodes p h := by
    simp only [State.setPorts, State.node, Vector.getElem_mapFinIdx]
    split
    · exact NodePort.Lawful.setEnabled h value
    · exact h

theorem acts_portSet : (actPortSet s p r).Acts pieces windows room s := by
  unfold actPortSet
  split
  · split
    · exact s.acts_refuse _
    · exact Answer.Acts.of_trunks (s.quiet_setPorts _ _).moves (by simp) (by simp) _
  · exact s.acts_refuse _

/-- A change of one trunk port that keeps its link and its replies. -/
theorem State.modTrunk_link_replies {f : Trunk → Trunk} (link : (f (s.trunk p)).link = (s.trunk p).link)
    (replies : (f (s.trunk p)).replies = (s.trunk p).replies) (q : TrunkId) :
    ((s.modTrunk p f).trunk q).link = (s.trunk q).link ∧ ((s.modTrunk p f).trunk q).replies = (s.trunk q).replies := by
  rw [State.trunk_modTrunk]
  split
  · next same => subst same; exact ⟨link, replies⟩
  · exact ⟨rfl, rfl⟩

/-- An answer whose effects on the trunk ports are one change that keeps link and replies. -/
theorem Answer.Acts.of_modTrunk {f : Trunk → Trunk} (lawful : (s.trunk p).Lawful → (f (s.trunk p)).Lawful)
    (link : (f (s.trunk p)).link = (s.trunk p).link) (replies : (f (s.trunk p)).replies = (s.trunk p).replies) (words : List Word) :
    ((s.modTrunk p f).accept words).Acts pieces windows room s :=
  ⟨(s.quiet_modTrunk lawful).moves, ⟨rfl, rfl⟩, fun q => (State.modTrunk_link_replies link replies q).1,
    fun q => (State.modTrunk_link_replies link replies q).2⟩

theorem Answer.Acts.trans {words' : List Word} (h : (t.accept words).Acts pieces windows room s) {a : Answer}
    (k : a.Acts pieces windows room (t.accept words').state) : a.Acts pieces windows room s :=
  ⟨h.moves.trans k.moves, ⟨k.frame.1.trans h.frame.1, k.frame.2.trans h.frame.2⟩, fun q => (k.link q).trans (h.link q), fun q => (k.replies q).trans (h.replies q)⟩

theorem acts_setMarkInterval (s : State) (p : TrunkId) (n : Nat) (words : List Word) :
    ((s.setMarkInterval p n).accept words).Acts pieces windows room s :=
  Answer.Acts.of_modTrunk (fun h => h.with_timers _ n _ (fun outside => by simp [outside]) h.starve_none) rfl rfl words

theorem acts_setStarveLimit (s : State) (p : TrunkId) (n : Nat) (words : List Word) :
    ((s.setStarveLimit p n).accept words).Acts pieces windows room s :=
  Answer.Acts.of_modTrunk (fun h => h.with_timers _ _ n h.mark_none fun outside => by simp [State.creditWait, outside]) rfl rfl words

theorem acts_setTrunkParams (s : State) (p : TrunkId) (interval limit : Option Word) (words : List Word) :
    ((s.setTrunkParams p interval limit).accept words).Acts pieces windows room s := by
  cases interval with
  | none =>
    cases limit with
    | none => exact s.acts_accept words
    | some l => exact acts_setStarveLimit s p l.toNat words
  | some w =>
    cases limit with
    | none => exact acts_setMarkInterval s p w.toNat words
    | some l => exact (acts_setMarkInterval s p w.toNat words).trans (words' := words) (acts_setStarveLimit _ p l.toNat words)

theorem acts_trunkSet : (actTrunkSet s p r).Acts pieces windows room s := by
  unfold actTrunkSet
  split
  · split
    · exact s.acts_refuse _
    · split
      · exact s.acts_refuse _
      · split
        · exact s.acts_refuse _
        · exact acts_setTrunkParams s _ _ _ _
  · exact s.acts_refuse _

theorem acts_clearCounters (s : State) (o : Owner) (words : List Word) : ((s.clearCounters o).accept words).Acts pieces windows room s := by
  cases o with
  | stream i => exact Answer.Acts.of_trunks (s.quiet_modStream (i := i) (f := fun x => { x with counters := Vector.replicate 12 0 }) rfl fun h =>
      h.with_counters (countersLawful_zero 12)).moves ⟨rfl, rfl⟩ rfl words
  | node p => exact Answer.Acts.of_trunks (s.quiet_modNode (p := p) (f := fun x => { x with counters := Vector.replicate 7 0 }) fun h =>
      NodePort.Lawful.with_counters h (countersLawful_zero 7)).moves ⟨rfl, rfl⟩ rfl words
  | group g => exact Answer.Acts.of_trunks (s.quiet_modGroup (g := g) (f := fun x => { x with counters := Vector.replicate 12 0 })
      ⟨rfl, id, fun _ => countersLawful_zero 12⟩).moves ⟨rfl, rfl⟩ rfl words
  | trunk p =>
    exact Answer.Acts.of_modTrunk (f := fun x => { x with counters := Vector.replicate 6 0 })
      (fun h => h.with_counters (countersLawful_zero 6)) rfl rfl words

theorem acts_readCounters : (actReadCounters s p r).Acts pieces windows room s := by
  unfold actReadCounters
  split
  · split
    · exact s.acts_refuse _
    · split
      · exact s.acts_refuse _
      · split
        · exact acts_clearCounters s _ _
        · exact s.acts_accept _
  · exact s.acts_refuse _

/-! ### The stream table (R33 to R36) -/

/-- A stream entry's configuration lies in its ranges, and its payload length is that of `x` unless the set names it (R33). -/
def Stream.InRange (x : Stream) (set : Word) (y : Stream) : Prop :=
  (1 ≤ y.length ∧ y.length ≤ 8 ∧ -32 ≤ y.offset ∧ y.offset ≤ 32 ∧ 1 ≤ y.threshold ∧ y.threshold ≤ 255) ∧
    (set.getLsbD 2 = false → y.length = x.length)

theorem Stream.InRange.writeNamed {x y z : Stream} {set : Word} {values : List Word} {k : Nat} (h : x.InRange set y)
    (written : y.writeNamed set values k = some z) : x.InRange set z := by
  obtain ⟨⟨l1, l2, o1, o2, t1, t2⟩, kept⟩ := h
  unfold Stream.writeNamed at written
  split at written
  · next w named =>
    have inSet : set.getLsbD k = true := by
      by_contra out
      simp [namedValue, out] at named
    unfold Stream.writeField at written
    split at written
    case h_1 => -- enabled flag
      split_ifs at written; cases written
      exact ⟨⟨l1, l2, o1, o2, t1, t2⟩, kept⟩
    case h_2 => -- bound port
      obtain ⟨q, -, rfl⟩ := Option.map_eq_some_iff.mp written
      exact ⟨⟨l1, l2, o1, o2, t1, t2⟩, kept⟩
    case h_3 => -- payload length
      split_ifs at written with range; cases written
      exact ⟨⟨range.1, range.2, o1, o2, t1, t2⟩, fun out => absurd (inSet.symm.trans out) Bool.noConfusion⟩
    case h_4 => -- instant offset
      split_ifs at written with range; cases written
      exact ⟨⟨l1, l2, range.1, range.2, t1, t2⟩, kept⟩
    case h_5 => -- fill policy
      split_ifs at written <;> cases written <;> exact ⟨⟨l1, l2, o1, o2, t1, t2⟩, kept⟩
    case h_6 => -- fill constant
      cases written
      exact ⟨⟨l1, l2, o1, o2, t1, t2⟩, kept⟩
    case h_7 => -- duplicate policy
      split_ifs at written <;> cases written <;> exact ⟨⟨l1, l2, o1, o2, t1, t2⟩, kept⟩
    case h_8 => -- loss threshold
      split_ifs at written with range; cases written
      exact ⟨⟨l1, l2, o1, o2, range.1, range.2⟩, kept⟩
    case h_9 => cases written
  · cases written
    exact ⟨⟨l1, l2, o1, o2, t1, t2⟩, kept⟩

/-- A write that WRITE_STREAM accepts leaves a lawful entry lawful: a new payload length finds the hold store invalid (R35). -/
theorem Stream.Lawful.writeAll {x y : Stream} {set : Word} {values : List Word} (h : x.Lawful)
    (written : x.writeAll set values = some y) (allowed : x.writeForbidden set = false) : y.Lawful := by
  obtain ⟨l1, l2, o1, o2, t1, t2, run, bound, unbound, lost, hold, counters⟩ := h
  obtain ⟨⟨l1', l2', o1', o2', t1', t2'⟩, length⟩ : x.InRange set y :=
    foldlM_range_induction (P := fun _ => x.InRange set) ⟨⟨l1, l2, o1, o2, t1, t2⟩, fun _ => rfl⟩
      (fun h written => h.writeNamed written) written
  obtain ⟨-, kept⟩ := Stream.writeAll_eq_some written
  have state : y.state = x.state := by rw [kept]; rfl
  have group : y.group = x.group := by rw [kept]; rfl
  have fillRun : y.fillRun = x.fillRun := by rw [kept]; rfl
  have holdStore : y.holdStore = x.holdStore := by rw [kept]; rfl
  have counters' : y.counters = x.counters := by rw [kept]; rfl
  refine ⟨l1', l2', o1', o2', t1', t2', by rw [fillRun]; exact run, by rw [state, group]; exact bound,
    by rw [state, fillRun, holdStore]; exact unbound, by rw [state, fillRun]; exact lost, fun ws valid => ?_,
    by rw [counters']; exact counters⟩
  rw [holdStore] at valid
  cases named : set.getLsbD 2 with
  | false => rw [length named]; exact hold ws valid
  | true =>
    have free : x.state = .unbound := by
      by_contra busy
      have := Stream.writeForbidden_iff.mpr (Or.inl ⟨⟨2, by decide, named⟩, busy⟩)
      rw [allowed] at this; cases this
    rw [(unbound free).2] at valid
    cases valid

theorem Stream.group_of_writeAll {x y : Stream} {set : Word} {values : List Word} (written : x.writeAll set values = some y) :
    y.group = x.group := by
  rw [(Stream.writeAll_eq_some written).2]; rfl

theorem acts_writeStream : (actWriteStream s p r).Acts pieces windows room s := by
  unfold actWriteStream
  split
  · split
    · exact s.acts_refuse _
    · split
      · exact s.acts_refuse _
      · next i _ =>
        split
        · exact s.acts_refuse _
        · split
          · exact s.acts_refuse _
          · next x written =>
            split
            · exact s.acts_refuse _
            · next allowed =>
              exact Answer.Acts.of_trunks (s.quiet_modStream (i := i) (f := fun _ => x) (Stream.group_of_writeAll written)
                fun h => h.writeAll written (Bool.eq_false_iff.mpr allowed)).moves ⟨rfl, rfl⟩ rfl _
  · exact s.acts_refuse _

/-! ### Groups (R103 to R106, R110) -/

theorem Group.paramsLawful_writeNamed {y z : Group} {set : Word} {values : List Word} {k : Nat} (h : y.paramsLawful)
    (written : y.writeNamed set values k = some z) : z.paramsLawful := by
  obtain ⟨d1, d2, t1, t2⟩ := h
  unfold Group.writeNamed at written
  split at written
  · unfold Group.writeParam at written
    split at written
    case h_1 => split_ifs at written with range; cases written; exact ⟨range.1, range.2, t1, t2⟩
    case h_2 => split_ifs at written with range; cases written; exact ⟨d1, d2, range.1, range.2⟩
    case h_3 => split_ifs at written <;> cases written <;> exact ⟨d1, d2, t1, t2⟩
    case h_4 => split_ifs at written <;> cases written <;> exact ⟨d1, d2, t1, t2⟩
    case h_5 => cases written
  · cases written; exact ⟨d1, d2, t1, t2⟩

theorem Group.paramsLawful_writeAll {x y : Group} {set : Word} {values : List Word} (h : x.paramsLawful)
    (written : x.writeAll set values = some y) : y.paramsLawful :=
  foldlM_range_induction (P := fun _ => Group.paramsLawful) h (fun h written => Group.paramsLawful_writeNamed h written) written

theorem acts_groupSet : (actGroupSet s p r).Acts pieces windows room s := by
  unfold actGroupSet
  split
  · split
    · exact s.acts_refuse _
    · split
      · exact s.acts_refuse _
      · next g _ =>
        split
        · exact s.acts_refuse _
        · split
          · exact s.acts_refuse _
          · next x written =>
            split
            · exact s.acts_refuse _
            · next stopped =>
              have moves := (State.Move.params (pieces := pieces) (windows := windows) (room := room) (y := x)
                (Bool.eq_false_iff.mpr stopped) fun h => Group.paramsLawful_writeAll h written).moves
              rw [← (Group.writeAll_eq_some written).2] at moves
              exact Answer.Acts.of_trunks moves ⟨rfl, rfl⟩ rfl _
  · exact s.acts_refuse _

theorem acts_groupStart : (actGroupStart s p r).Acts pieces windows room s := by
  rw [actGroupStart_eq]
  refine acts_answerForGroup fun g => ?_
  cases state : (s.group g).state with
  | aborting => rw [State.answerStart_of_aborting state]; exact s.acts_refuse _
  | running => simp only [State.answerStart, state]; exact s.acts_accept _
  | draining =>
    simp only [State.answerStart, state]
    exact Answer.Acts.of_trunks (State.Move.rerun state).moves ⟨rfl, rfl⟩ rfl _
  | stopped =>
    simp only [State.answerStart, state]
    split
    · exact s.acts_refuse _
    · exact Answer.Acts.of_trunks ((State.Move.start state).moves.quiet (State.quiet_restartStreams _ g)) (by simp) (by simp) _

theorem State.moves_stopGroup (s : State) (g : GroupId) : State.Moves pieces windows room s (s.stopGroup g) := by
  unfold State.stopGroup
  split
  · next running =>
    split
    · next empty => exact (State.Move.stop running empty).moves
    · next holds => exact (State.Move.drain running (Bool.eq_false_iff.mpr holds)).moves
  all_goals exact State.Moves.refl s

theorem acts_groupStop : (actGroupStop s p r).Acts pieces windows room s := by
  rw [actGroupStop_eq]
  exact acts_answerForGroup fun g => Answer.Acts.of_trunks (s.moves_stopGroup g) (by simp) (by simp) _

theorem acts_groupAbort : (actGroupAbort s p r).Acts pieces windows room s := by
  rw [actGroupAbort_eq]
  exact acts_answerForGroup fun g => Answer.Acts.of_trunks (State.Move.abort g).moves (by simp) (by simp) _

/-! ### Templates (R43 to R54) -/

theorem Slot.lawful_of_words {a c f : Word} {x : Slot} (h : slotOfWords a c f = some x) : x.Lawful := by
  unfold slotOfWords at h
  split at h
  · cases h
  · split at h
    · next range => cases h; exact range
    · cases h

theorem lawful_of_slotsOfWords {words : List Word} {slots : List Slot} (h : slotsOfWords words = some slots) : ∀ x ∈ slots, x.Lawful := by
  fun_induction slotsOfWords words generalizing slots with
  | case1 a c f rest x xs first others ih =>
    cases h
    exact List.forall_mem_cons.mpr ⟨Slot.lawful_of_words others, ih first⟩
  | case2 => cases h
  | case3 => cases h; simp
  | case4 => cases h

theorem acts_templateLoad : (actTemplateLoad s p r).Acts pieces windows room s := by
  unfold actTemplateLoad
  split
  · split
    · exact s.acts_refuse _
    · split
      · next slots _ loaded =>
        split_ifs with long locked conflict
        · exact s.acts_refuse _
        · exact s.acts_refuse _
        · exact s.acts_refuse _
        · obtain ⟨distinct, -⟩ := not_or.mp conflict
          have idle : ∀ g, ¬(s.group g).templates.armed.isSome = true → (s.group g).templates.armed = none := fun g => by simp
          refine Answer.Acts.of_trunks (State.Move.editIdle (idle _ locked) fun _ => ⟨by omega, lawful_of_slotsOfWords loaded,
            slotsDistinct_iff.mp (by simpa using distinct)⟩).moves ⟨rfl, rfl⟩ rfl _
      · exact s.acts_refuse _
  · exact s.acts_refuse _

theorem acts_templateCopy : (actTemplateCopy s p r).Acts pieces windows room s := by
  unfold actTemplateCopy
  split
  · split
    · exact s.acts_refuse _
    · next g _ =>
      split
      · exact s.acts_refuse _
      · next locked =>
        have idle : (s.group g).templates.armed = none := by simpa using locked
        exact Answer.Acts.of_trunks (State.Move.editIdle idle fun h => h.1).moves ⟨rfl, rfl⟩ rfl _
  · exact s.acts_refuse _

theorem acts_templateCommit : (actTemplateCommit s p r).Acts pieces windows room s := by
  unfold actTemplateCommit
  split
  · split
    · exact s.acts_refuse _
    · next g _ =>
      split_ifs with mode locked conflict
      · exact s.acts_refuse _
      · exact s.acts_refuse _
      · exact s.acts_refuse _
      · have idle : (s.group g).templates.armed = none := by simpa using locked
        have agrees := Bool.eq_false_iff.mpr conflict
        dsimp only
        split
        · next unset => exact Answer.Acts.of_trunks (State.Move.commitNow idle agrees unset).moves (by simp) (by simp) _
        · next e set =>
          split
          · exact s.acts_refuse _
          · next n due => exact Answer.Acts.of_trunks (State.Move.commitArmed idle agrees set due).moves (by simp) (by simp) _
  · exact s.acts_refuse _

theorem acts_templateCancel : (actTemplateCancel s p r).Acts pieces windows room s := by
  unfold actTemplateCancel
  split
  · split
    · exact s.acts_refuse _
    · split
      · exact s.acts_refuse _
      · next armed =>
        split
        · exact s.acts_refuse _
        · next unused =>
          exact Answer.Acts.of_trunks (State.Move.cancel armed (Bool.eq_false_iff.mpr unused)).moves (by simp) (by simp) _
  · exact s.acts_refuse _

end

end Sys2Proof.Machine
end


section
/-! Every command as a chain of moves, and the step laws: what each step keeps (R153, R2 to R168). -/

namespace Sys2Proof.Machine

-- One after another, as in the tests: many proofs checked at once would each hold a thread.
set_option Elab.async false

/-! ### One taking of the engine (R139, R140) -/

section
variable {pieces windows room : Prop} {s t : State} {p : TrunkId} {r : Request} {rest : List Request}

/-- The port that R139 chooses has a request waiting and a free reply place. -/
theorem State.eligible_of_nextTrunk (chosen : s.nextTrunk = some p) : (s.trunk p).eligible = true := by
  unfold State.nextTrunk at chosen
  split_ifs at chosen with soft next last
  · cases chosen; exact next
  · cases chosen; exact last

theorem Trunk.few_replies_of_eligible {x : Trunk} (h : x.eligible = true) : x.replies.length < 4 := by
  simp [Trunk.eligible] at h
  exact h.2

theorem State.quiet_dequeue (waiting : (s.trunk p).requests = r :: rest) : s.Quiet (s.dequeue p rest) := by
  refine State.Quiet.trans (t := { s with lastTrunk := p }) (State.Quiet.of_pieces rfl rfl rfl rfl rfl rfl rfl rfl rfl)
    (State.quiet_modTrunk _ fun h => h.with_requests ?_ fun none => ?_)
  · obtain ⟨-, -, few, -⟩ := h
    change (s.trunk p).requests.length ≤ 4 at few
    rw [waiting, List.length_cons] at few
    omega
  · exact absurd (waiting.symm.trans none) (List.cons_ne_nil _ _)

theorem State.moves_serve (waiting : (s.trunk p).requests = r :: rest) (few : (s.trunk p).replies.length < 4)
    {act : State → TrunkId → Request → Answer} (acts : ∀ u, (act u p r).Acts pieces windows room u) (sound : pieces → s.PiecesSound) :
    State.Moves pieces windows room s (s.serve p r rest act) := by
  obtain ⟨moves, -, link, replies⟩ := acts (s.dequeue p rest)
  have kept := State.modTrunk_link_replies (s := { s with lastTrunk := p }) (p := p) (f := fun x => { x with requests := rest }) rfl rfl p
  refine ((State.quiet_dequeue waiting).moves.trans moves).trans ((State.Move.port fun lean h => ?_).moves.choose p)
  refine Trunk.Lawful.with_replies h ?_ fun _ outside => ?_
  · rw [replies, List.length_append, List.length_singleton, State.dequeue, kept.2]
    exact few
  · refine absurd ?_ outside
    rw [link, State.dequeue, kept.1]
    exact ((sound lean).trunks p).up_of_busy (Or.inr (Or.inr (Or.inl (by rw [waiting]; exact List.cons_ne_nil _ _))))

/-- One taking, whichever request its command takes (R139, R140). -/
theorem State.moves_takeRequest {mine : Request → Bool} {act : State → TrunkId → Request → Answer}
    (acts : ∀ u p r, (act u p r).Acts pieces windows room u) (sound : pieces → s.PiecesSound) :
    State.Moves pieces windows room s (s.takeRequest mine act) := by
  unfold State.takeRequest State.unlessHeld
  split
  · exact State.Moves.refl s
  · refine State.moves_withWaits ?_
    split
    · exact State.Moves.refl s
    · next p chosen =>
      split
      · exact State.Moves.refl s
      · next r rest waiting =>
        split
        · exact State.moves_serve waiting (Trunk.few_replies_of_eligible (State.eligible_of_nextTrunk chosen)) (fun u => acts u p r) sound
        · exact State.Moves.refl s

/-! ### The other commands -/

theorem State.moves_unlessHeld {f : State → State} (h : State.Moves pieces windows room s (f s)) :
    State.Moves pieces windows room s (s.unlessHeld f) := by
  unfold State.unlessHeld
  split
  · exact State.Moves.refl s
  · exact h

/-- What a chain of moves may lean on in the state where it begins. -/
structure State.Leans (pieces windows room : Prop) (s : State) : Prop where
  sound : pieces → s.PiecesLawful
  lawful : windows → s.WindowsLawful
  needs : room → windows
  bounded : room → s.BanksLawful ∧ s.queuesBounded

theorem State.quiet_nodeSignal (p : NodeId) (s : State) (level : Bool) : s.Quiet (s.modNode p fun x => { x with line := level }) :=
  s.quiet_modNode fun h => NodePort.Lawful.with_line h level

/-- Every command is a chain of moves. -/
theorem State.moves_exec {c : Instr} (h : exec c s = .next t) (leans : s.Leans pieces windows room) : State.Moves pieces windows room s t := by
  have sound : pieces → s.PiecesSound := fun lean => (State.piecesLawful_iff.mp (leans.sound lean)).1
  have down : pieces → s.HeldDown := fun lean => (State.piecesLawful_iff.mp (leans.sound lean)).2
  cases c <;> cases h
  case powerOnReset => exact (State.Move.powerOn s).moves
  case powerOnResetRelease =>
    split
    · next held =>
      unfold State.releasePower
      split
      · exact (State.Move.pinReset s).moves
      · exact (State.Move.release fun lean => down lean (by rw [held]; decide)).moves
    · exact State.Moves.refl s
  case pinReset =>
    have pin : s.Quiet { s with resetNLow := true } := State.Quiet.of_pieces rfl rfl rfl rfl rfl rfl rfl rfl rfl
    dsimp only
    split
    · exact pin.moves.trans (State.Move.pinReset _).moves
    · exact pin.moves
  case pinResetRelease =>
    have pin : s.Quiet { s with resetNLow := false } := State.Quiet.of_pieces rfl rfl rfl rfl rfl rfl rfl rfl rfl
    dsimp only
    split
    · next held =>
      exact pin.moves.trans (State.Move.release (s := { s with resetNLow := false }) fun lean => down lean (by
        change s.hold = _ at held
        rw [held]; decide)).moves
    · exact pin.moves
  case nodeSignalPresent p =>
    split
    · exact (s.quiet_nodeSignal p true).moves
    · exact (s.quiet_modNode NodePort.Lawful.signalPresent).moves
  case nodeSignalLoss p =>
    split
    · exact (s.quiet_nodeSignal p false).moves
    · exact (s.quiet_modNode NodePort.Lawful.signalLoss).moves
  case nodeIdleSequence p =>
    refine State.moves_unlessHeld (State.quiet_modNode _ fun h => ?_).moves
    unfold NodePort.idleSequence
    split
    · next aligning => exact h.alignStep aligning
    all_goals exact h
  case nodeUnitEnd p symbols =>
    refine State.moves_unlessHeld ?_
    dsimp only
    split
    · exact State.Moves.refl s
    · next aligning =>
      have closed : ((s.closeReception p).node p).link = .aligning := by simp [State.closeReception, aligning]
      exact ((s.quiet_closeReception p).trans (State.quiet_modNode _ fun h => h.alignUnit closed _)).moves
    · next up =>
      have closed : ((s.closeReception p).node p).link = .up := by simp [State.closeReception, up]
      exact ((s.quiet_closeReception p).trans (State.quiet_nodeReceive _ p closed _)).moves
  case nodeTruncatedUnit p ending =>
    refine State.moves_unlessHeld ?_
    split
    · exact State.Moves.refl s
    all_goals exact (s.quiet_modNode fun h => NodePort.Lawful.with_reception h _).moves
  case nodeStraySymbol p symbols =>
    refine State.moves_unlessHeld ?_
    split
    · exact State.Moves.refl s
    · exact (s.quiet_modNode NodePort.Lawful.alignBreak).moves
    · next up => exact (s.quiet_nodeCheckError p up).moves
  case intakeTaking =>
    refine State.moves_unlessHeld ?_
    split
    · next free _ => exact s.moves_takeMessage _ free leans.lawful
    · exact State.Moves.refl s
  case forcedAdvance =>
    refine State.moves_unlessHeld (State.moves_withWaits ?_)
    split
    · next waits => exact State.moves_settleAdvance waits leans.needs leans.lawful leans.bounded
    · exact State.Moves.refl s
  case rowDeadlineExpiry g n =>
    refine State.moves_unlessHeld ?_
    split
    · split
      · exact State.Moves.refl s
      · exact s.moves_expireRow g _
    · exact State.Moves.refl s
  case closeAttempt g =>
    refine State.moves_unlessHeld (State.moves_withWaits ?_)
    split
    · exact State.Moves.refl s
    · exact s.moves_takeAttempt g leans.lawful
  case trunkSignalPresent p =>
    refine (s.quiet_modTrunk fun h => ?_).moves
    split
    · next free => exact h.startAligning (by simp [free.2]) true
    · exact h.with_line true
  case trunkSignalLoss p =>
    split
    · exact (s.quiet_modTrunk fun h => h.with_line false).moves
    · exact State.moves_withWaits (s.moves_trunkSignalLoss p)
  case trunkIdleSequence p =>
    refine State.moves_unlessHeld (State.moves_withWaits ?_)
    split
    · exact s.moves_trunkAlignStep p
    all_goals exact State.Moves.refl s
  case trunkUnitEnd p symbols =>
    refine State.moves_unlessHeld (State.moves_withWaits ?_)
    dsimp only
    split
    · exact State.Moves.refl s
    · exact (s.quiet_closeTrunkReception p).moves.trans (State.moves_trunkAlignUnit _ p _)
    · next up =>
      have closed : ((s.closeTrunkReception p).trunk p).link = .up := by simp [State.closeTrunkReception, up]
      exact (s.quiet_closeTrunkReception p).moves.trans (State.moves_trunkReceive closed)
  case trunkTruncatedUnit p ending =>
    refine State.moves_unlessHeld ?_
    split
    · exact State.Moves.refl s
    all_goals exact (s.quiet_modTrunk fun h => h.with_reception _).moves
  case trunkStraySymbol p symbols =>
    refine State.moves_unlessHeld (State.moves_withWaits ?_)
    split
    · exact State.Moves.refl s
    · exact (s.quiet_modTrunk Trunk.Lawful.alignBreak).moves
    · next up => exact State.moves_trunkCheckError up
  case starveTimerExpiry p =>
    refine State.moves_unlessHeld ?_
    split
    · exact (s.quiet_expireStarve p _).moves
    · exact State.Moves.refl s
  case markTimerExpiry p =>
    refine State.moves_unlessHeld (State.moves_withWaits ?_)
    split
    · next running => exact State.moves_expireMark running
    · exact State.Moves.refl s
  case frameTransmissionEnd p =>
    refine State.moves_unlessHeld (State.moves_withWaits ?_)
    split
    · next found => exact State.moves_endFrame found
    · exact State.Moves.refl s
  case markTransmissionEnd p =>
    refine State.moves_unlessHeld (State.moves_withWaits ?_)
    split
    · exact s.moves_endMark p
    all_goals exact State.Moves.refl s
  case replyTransmissionEnd p =>
    refine State.moves_unlessHeld (State.moves_withWaits ?_)
    split
    · exact s.moves_endReply p _
    · exact State.Moves.refl s
  case ping => exact State.moves_takeRequest (fun _ _ _ => acts_ping) sound
  case readStream => exact State.moves_takeRequest (fun _ _ _ => acts_readStream) sound
  case writeStream => exact State.moves_takeRequest (fun _ _ _ => acts_writeStream) sound
  case templateLoad => exact State.moves_takeRequest (fun _ _ _ => acts_templateLoad) sound
  case templateCopy => exact State.moves_takeRequest (fun _ _ _ => acts_templateCopy) sound
  case templateRead => exact State.moves_takeRequest (fun _ _ _ => acts_templateRead) sound
  case templateCommit => exact State.moves_takeRequest (fun _ _ _ => acts_templateCommit) sound
  case templateCancel => exact State.moves_takeRequest (fun _ _ _ => acts_templateCancel) sound
  case groupSet => exact State.moves_takeRequest (fun _ _ _ => acts_groupSet) sound
  case groupStart => exact State.moves_takeRequest (fun _ _ _ => acts_groupStart) sound
  case groupStop => exact State.moves_takeRequest (fun _ _ _ => acts_groupStop) sound
  case groupAbort => exact State.moves_takeRequest (fun _ _ _ => acts_groupAbort) sound
  case groupStatus => exact State.moves_takeRequest (fun _ _ _ => acts_groupStatus) sound
  case rowList => exact State.moves_takeRequest (fun _ _ _ => acts_rowList) sound
  case portStatus => exact State.moves_takeRequest (fun _ _ _ => acts_portStatus) sound
  case portSet => exact State.moves_takeRequest (fun _ _ _ => acts_portSet) sound
  case trunkSet => exact State.moves_takeRequest (fun _ _ _ => acts_trunkSet) sound
  case readCounters => exact State.moves_takeRequest (fun _ _ _ => acts_readCounters) sound
  case faultRead => exact State.moves_takeRequest (fun _ _ _ => acts_faultRead) sound
  case faultTake => exact State.moves_takeRequest (fun _ _ _ => acts_faultTake) sound
  case faultMaskRead => exact State.moves_takeRequest (fun _ _ _ => acts_faultMask) sound
  case faultMaskWrite => exact State.moves_takeRequest (fun _ _ _ => acts_faultMask) sound
  case reset => exact State.moves_takeRequest (fun _ _ _ => acts_reset) sound
  case undefinedRequest => exact State.moves_takeRequest (fun _ _ _ => acts_undefined) sound

end

end Sys2Proof.Machine
end


section
/-! What every command leaves alone, the queue of waiting commands and but for the reset pins the hold, and the step laws. -/

namespace Sys2Proof.Machine

-- One after another, as in the tests: many proofs checked at once would each hold a thread.
set_option Elab.async false

/-! ### The waiting commands and the hold -/

/-- The queue of waiting commands and the hold of a reset pin are as they were. -/
def State.Kept (s t : State) : Prop := t.pending = s.pending ∧ t.hold = s.hold

section
variable {s t : State} {p : TrunkId}

theorem State.Kept.refl (s : State) : s.Kept s := ⟨rfl, rfl⟩

theorem State.kept_unlessHeld {f : State → State} (h : s.Kept (f s)) : s.Kept (s.unlessHeld f) := by
  unfold State.unlessHeld
  split
  · exact State.Kept.refl s
  · exact h

theorem State.kept_withWaits {f : State → State} (h : s.Kept (f s)) : s.Kept (s.withWaits f) := by
  simpa [State.Kept] using h

theorem State.kept_takeRequest {mine : Request → Bool} {act : State → TrunkId → Request → Answer}
    (acts : ∀ u p r, (act u p r).Acts False False False u) : s.Kept (s.takeRequest mine act) := by
  unfold State.takeRequest
  refine State.kept_unlessHeld (State.kept_withWaits ?_)
  split
  · exact State.Kept.refl s
  · next p _ =>
    split
    · exact State.Kept.refl s
    · next r rest _ =>
      split
      · obtain ⟨-, ⟨pending, hold⟩, -, -⟩ := acts (s.dequeue p rest) p r
        exact ⟨by simp [State.serve, pending], by simp [State.serve, hold]⟩
      · exact State.Kept.refl s

theorem State.Kept.trans {u : State} (h : s.Kept t) (k : t.Kept u) : s.Kept u := ⟨k.1.trans h.1, k.2.trans h.2⟩

theorem State.kept_softReset (s : State) : s.Kept s.softReset := by
  constructor <;> simp [State.softReset, State.lookAtLines]

theorem State.kept_trunkLeaveUp (s : State) (p : TrunkId) (next : Link) : s.Kept (s.trunkLeaveUp p next) := by
  unfold State.trunkLeaveUp
  dsimp only
  split
  · refine State.Kept.trans ?_ (State.kept_softReset _)
    split <;> exact ⟨by simp, by simp⟩
  · split <;> exact ⟨by simp, by simp⟩

theorem State.kept_trunkCheckError (s : State) (p : TrunkId) : s.Kept (s.trunkCheckError p) := by
  unfold State.trunkCheckError
  dsimp only
  split
  · exact State.Kept.trans (t := s.modTrunk p _) ⟨rfl, rfl⟩ (State.kept_trunkLeaveUp _ p .aligning)
  · exact ⟨rfl, rfl⟩

theorem State.kept_trunkReceive (s : State) (p : TrunkId) (v : TrunkVerdict) : s.Kept (s.trunkReceive p v) := by
  cases v with
  | badCrc => exact s.kept_trunkCheckError p
  | badForm | credit | request => constructor <;> simp [State.trunkReceive, State.trunkBadForm]

theorem State.kept_trunkSignalLoss (s : State) (p : TrunkId) : s.Kept (s.trunkSignalLoss p) := by
  unfold State.trunkSignalLoss
  dsimp only
  split
  · exact State.Kept.trans (t := s.modTrunk p _) ⟨rfl, rfl⟩ (State.kept_trunkLeaveUp _ p .down)
  all_goals exact ⟨rfl, rfl⟩

theorem State.kept_updateHolds (s : State) (g : GroupId) (entries : List Entry) : s.Kept (entries.foldl (fun u e => u.updateHold g e) s) := by
  induction entries generalizing s with
  | nil => exact State.Kept.refl s
  | cons e es ih => exact State.Kept.trans (t := s.updateHold g e) ⟨by simp, by simp⟩ (ih _)

theorem State.kept_endFrame (s : State) (p : TrunkId) (head : FrameRecord) (rest : List FrameRecord) : s.Kept (s.endFrame p head rest) :=
  (s.kept_updateHolds p head.entries).trans ⟨by simp [State.endFrame], by simp [State.endFrame]⟩

theorem State.kept_endReply (s : State) (p : TrunkId) (r : Reply) : s.Kept (s.endReply p r) := by
  unfold State.endReply
  dsimp only
  split
  · exact State.Kept.trans ⟨by simp, by simp⟩ (State.kept_softReset _)
  · exact ⟨by simp, by simp⟩

/-- The commands on the two reset pins (R153). -/
def onResetPin : Instr → Bool
  | .powerOnReset | .powerOnResetRelease | .pinReset | .pinResetRelease => true
  | _ => false

/-- No command of the manual but those of the reset pins touches the queue of waiting commands or the hold. -/
theorem State.kept_exec {c : Instr} (other : onResetPin c = false) (h : exec c s = .next t) : s.Kept t := by
  cases c <;> cases h
  case powerOnReset | powerOnResetRelease | pinReset | pinResetRelease => cases other
  case nodeSignalPresent | nodeSignalLoss => split <;> exact ⟨rfl, rfl⟩
  case nodeIdleSequence => exact State.kept_unlessHeld ⟨rfl, rfl⟩
  case nodeUnitEnd =>
    refine State.kept_unlessHeld ?_
    dsimp only
    split <;> exact ⟨by simp, by simp⟩
  case nodeTruncatedUnit | nodeStraySymbol =>
    refine State.kept_unlessHeld ?_
    split <;> exact ⟨by simp, by simp⟩
  case intakeTaking =>
    refine State.kept_unlessHeld ?_
    split <;> exact ⟨by simp, by simp⟩
  case rowDeadlineExpiry =>
    refine State.kept_unlessHeld ?_
    split
    · split <;> exact ⟨by simp, by simp⟩
    · exact State.Kept.refl s
  case forcedAdvance | closeAttempt | trunkIdleSequence | markTimerExpiry | markTransmissionEnd =>
    refine State.kept_unlessHeld (State.kept_withWaits ?_)
    split <;> exact ⟨by simp, by simp⟩
  case trunkSignalPresent => exact ⟨rfl, rfl⟩
  case trunkSignalLoss p =>
    split
    · exact ⟨rfl, rfl⟩
    · exact State.kept_withWaits (s.kept_trunkSignalLoss p)
  case trunkUnitEnd =>
    refine State.kept_unlessHeld (State.kept_withWaits ?_)
    dsimp only
    split
    · exact State.Kept.refl s
    · exact ⟨by simp, by simp⟩
    · exact State.Kept.trans (t := s.closeTrunkReception _) ⟨rfl, rfl⟩ (State.kept_trunkReceive _ _ _)
  case trunkTruncatedUnit | starveTimerExpiry =>
    refine State.kept_unlessHeld ?_
    split <;> exact ⟨by simp, by simp⟩
  case trunkStraySymbol p _ =>
    refine State.kept_unlessHeld (State.kept_withWaits ?_)
    split
    · exact State.Kept.refl s
    · exact ⟨rfl, rfl⟩
    · exact s.kept_trunkCheckError p
  case frameTransmissionEnd p =>
    refine State.kept_unlessHeld (State.kept_withWaits ?_)
    split
    · exact s.kept_endFrame p _ _
    · exact State.Kept.refl s
  case replyTransmissionEnd p =>
    refine State.kept_unlessHeld (State.kept_withWaits ?_)
    split
    · exact s.kept_endReply p _
    · exact State.Kept.refl s
  case ping => exact State.kept_takeRequest fun _ _ _ => acts_ping
  case readStream => exact State.kept_takeRequest fun _ _ _ => acts_readStream
  case writeStream => exact State.kept_takeRequest fun _ _ _ => acts_writeStream
  case templateLoad => exact State.kept_takeRequest fun _ _ _ => acts_templateLoad
  case templateCopy => exact State.kept_takeRequest fun _ _ _ => acts_templateCopy
  case templateRead => exact State.kept_takeRequest fun _ _ _ => acts_templateRead
  case templateCommit => exact State.kept_takeRequest fun _ _ _ => acts_templateCommit
  case templateCancel => exact State.kept_takeRequest fun _ _ _ => acts_templateCancel
  case groupSet => exact State.kept_takeRequest fun _ _ _ => acts_groupSet
  case groupStart => exact State.kept_takeRequest fun _ _ _ => acts_groupStart
  case groupStop => exact State.kept_takeRequest fun _ _ _ => acts_groupStop
  case groupAbort => exact State.kept_takeRequest fun _ _ _ => acts_groupAbort
  case groupStatus => exact State.kept_takeRequest fun _ _ _ => acts_groupStatus
  case rowList => exact State.kept_takeRequest fun _ _ _ => acts_rowList
  case portStatus => exact State.kept_takeRequest fun _ _ _ => acts_portStatus
  case portSet => exact State.kept_takeRequest fun _ _ _ => acts_portSet
  case trunkSet => exact State.kept_takeRequest fun _ _ _ => acts_trunkSet
  case readCounters => exact State.kept_takeRequest fun _ _ _ => acts_readCounters
  case faultRead => exact State.kept_takeRequest fun _ _ _ => acts_faultRead
  case faultTake => exact State.kept_takeRequest fun _ _ _ => acts_faultTake
  case reset => exact State.kept_takeRequest fun _ _ _ => acts_reset
  case faultMaskRead => exact State.kept_takeRequest fun _ _ _ => acts_faultMask
  case faultMaskWrite => exact State.kept_takeRequest fun _ _ _ => acts_faultMask
  case undefinedRequest => exact State.kept_takeRequest fun _ _ _ => acts_undefined

/-- Settles O2: every command's outcome is a next state; the reset pins' own keep the queue by what the resets are. -/
theorem everyCommandAnswersNext : Obligations.EveryCommandAnswersNext := by
  intro c s
  obtain ⟨t, next⟩ : ∃ t, exec c s = .next t := by cases c <;> exact ⟨_, rfl⟩
  refine ⟨t, next, ?_⟩
  cases pin : onResetPin c with
  | false => exact (State.kept_exec pin next).1
  | true =>
    cases c <;> cases pin <;> cases next
    · rfl
    · split
      · unfold State.releasePower; split <;> rfl
      · rfl
    · dsimp only; split <;> rfl
    · dsimp only; split <;> rfl

/-! ### A held part (R153) -/

/-- The events on the lines' signal (R3, R118). -/
def onSignal : Instr → Bool
  | .nodeSignalPresent _ | .nodeSignalLoss _ | .trunkSignalPresent _ | .trunkSignalLoss _ => true
  | _ => false

theorem State.held_iff : s.held = true ↔ s.hold ≠ .none := by simp [State.held]

/-- While a reset pin holds the part, nothing is done but by the reset pins and the lines' signal (R153). -/
theorem exec_of_held {c : Instr} (held : s.hold ≠ .none) (pin : onResetPin c = false) (signal : onSignal c = false) : exec c s = .next s := by
  have held := State.held_iff.mpr held
  cases c
  case powerOnReset | powerOnResetRelease | pinReset | pinResetRelease => cases pin
  case nodeSignalPresent | nodeSignalLoss | trunkSignalPresent | trunkSignalLoss => cases signal
  all_goals exact congrArg Host.Outcome.next (if_pos held)

/-- While a reset pin holds the part, a signal event sets the level of its line alone (R153). -/
theorem exec_nodeSignalPresent_of_held (held : s.hold ≠ .none) (p : NodeId) :
    exec (.nodeSignalPresent p) s = .next (s.modNode p fun x => { x with line := true }) :=
  congrArg Host.Outcome.next (if_pos (State.held_iff.mpr held))

theorem exec_nodeSignalLoss_of_held (held : s.hold ≠ .none) (p : NodeId) :
    exec (.nodeSignalLoss p) s = .next (s.modNode p fun x => { x with line := false }) :=
  congrArg Host.Outcome.next (if_pos (State.held_iff.mpr held))

theorem exec_trunkSignalPresent_of_held (held : s.hold ≠ .none) (p : TrunkId) :
    exec (.trunkSignalPresent p) s = .next (s.modTrunk p fun x => { x with line := true }) := by
  have := State.held_iff.mpr held
  simp only [exec, execTrunkSignalPresent, this, Bool.true_eq_false, false_and, if_false]

theorem exec_trunkSignalLoss_of_held (held : s.hold ≠ .none) (p : TrunkId) :
    exec (.trunkSignalLoss p) s = .next (s.modTrunk p fun x => { x with line := false }) :=
  congrArg Host.Outcome.next (if_pos (State.held_iff.mpr held))

/-- Every link of the part is DOWN. -/
def State.AllDown (s : State) : Prop := (∀ p, (s.node p).link = .down) ∧ ∀ p, (s.trunk p).link = .down

theorem State.AllDown.line {s : State} (h : s.AllDown) :
    (∀ (p : NodeId) (level : Bool), (s.modNode p fun x => { x with line := level }).AllDown) ∧
      ∀ (p : TrunkId) (level : Bool), (s.modTrunk p fun x => { x with line := level }).AllDown := by
  refine ⟨fun p level => ⟨fun q => ?_, h.2⟩, fun p level => ⟨h.1, fun q => ?_⟩⟩
  · rw [State.node_modNode]; split
    · exact h.1 p
    · exact h.1 q
  · rw [State.trunk_modTrunk]; split
    · exact h.2 p
    · exact h.2 q

theorem State.powerOn_allDown (s : State) : s.powerOn.AllDown :=
  ⟨fun p => by simp [State.powerOn, State.node, NodePort.atReset, NodePort.initial], fun p => by
    simp [State.powerOn, State.trunk, Trunk.atReset, Trunk.initial]⟩

/-- A part that a reset pin holds keeps every link DOWN. -/
theorem State.heldDown_exec {c : Instr} (h : exec c s = .next t) (down : s.HeldDown) : t.HeldDown := by
  cases pin : onResetPin c with
  | false =>
    by_cases free : s.hold = .none
    · exact fun held => absurd ((State.kept_exec pin h).2.trans free) held
    · have closed : s.AllDown := down free
      cases signal : onSignal c with
      | false => rw [exec_of_held free pin signal] at h; cases h; exact down
      | true =>
        cases c <;> cases signal
        · cases (exec_nodeSignalPresent_of_held free _).symm.trans h; exact fun _ => closed.line.1 _ true
        · cases (exec_nodeSignalLoss_of_held free _).symm.trans h; exact fun _ => closed.line.1 _ false
        · cases (exec_trunkSignalPresent_of_held free _).symm.trans h; exact fun _ => closed.line.2 _ true
        · cases (exec_trunkSignalLoss_of_held free _).symm.trans h; exact fun _ => closed.line.2 _ false
  | true =>
    cases c <;> cases pin <;> cases h
    · exact fun _ => s.powerOn_allDown
    · split
      · unfold State.releasePower
        split
        · exact fun _ => s.powerOn_allDown
        · exact fun held => absurd rfl held
      · exact down
    · dsimp only
      split
      · exact fun _ => State.powerOn_allDown _
      · exact down
    · dsimp only
      split
      · exact fun held => absurd rfl held
      · exact down

end

/-! ### The step laws -/

/-- A step is one command, with the queue's rest waiting, or one microsecond; either is a chain of moves. -/
theorem State.moves_step {pieces windows room : Prop} {s t : State} (h : step s = .next t) (leans : s.Leans pieces windows room) :
    State.Moves pieces windows room s t := by
  unfold step at h
  split at h
  · next c rest pending =>
    have taken : s.Quiet { s with pending := rest } := State.Quiet.of_pieces rfl rfl rfl rfl rfl rfl rfl rfl rfl
    exact taken.moves.trans (State.moves_exec h ⟨leans.sound, leans.lawful, leans.needs, leans.bounded⟩)
  · cases h
    have ticked : s.Quiet s.tick := by
      unfold State.tick
      split
      all_goals exact State.Quiet.of_pieces rfl rfl rfl rfl rfl rfl rfl rfl rfl
    exact ticked.moves

/-- A chain that leans on nothing. -/
theorem State.leans_nothing (s : State) : s.Leans False False False := ⟨False.elim, False.elim, id, False.elim⟩

theorem State.heldDown_step {s t : State} (h : step s = .next t) (down : s.HeldDown) : t.HeldDown := by
  unfold step at h
  split at h
  · exact State.heldDown_exec h down
  · cases h
    unfold State.tick
    split <;> exact down

/-- Settles O55: every step is a chain of moves that leans on the pieces' laws, and each such move keeps them. -/
theorem everyStepKeepsThePiecesLawful : Obligations.EveryStepKeepsThePiecesLawful := by
  intro s t lawful next
  obtain ⟨sound, down⟩ := State.piecesLawful_iff.mp lawful
  have moves := State.moves_step (pieces := True) (windows := False) (room := False) next ⟨fun _ => lawful, False.elim, id, False.elim⟩
  exact State.piecesLawful_iff.mpr ⟨State.Moves.keeps (fun _ _ move => move.keepsPieces trivial) moves sound, State.heldDown_step next down⟩

/-- Settles O56: every step is a chain of moves, and each move keeps the law on rows. -/
theorem everyStepKeepsTheRowLaw : Obligations.EveryStepKeepsTheRowLaw := fun s _ h next =>
  State.Moves.keeps (fun _ _ move => move.keepsRows) (State.moves_step next s.leans_nothing) h

/-- Settles O57: every step is a chain of moves, and each move keeps the law on bindings. -/
theorem everyStepKeepsBindingsWhereNamed : Obligations.EveryStepKeepsBindingsWhereNamed := fun s _ h next =>
  State.Moves.keeps (fun _ _ move => move.keepsBindings) (State.moves_step next s.leans_nothing) h

/-- Settles O58: every step is a chain of moves that leans on the window laws, and each such move keeps them. -/
theorem everyStepKeepsTheWindowLaws : Obligations.EveryStepKeepsTheWindowLaws := fun _ _ h next =>
  State.Moves.keeps (fun _ _ move => move.keepsWindows trivial)
    (State.moves_step (pieces := False) (windows := True) (room := False) next ⟨False.elim, fun _ => h, False.elim, False.elim⟩) h

/-- Settles O59: each move of a step keeps banks, rows and cells while the window laws hold, and it keeps those too. -/
theorem everyStepKeepsTheCellLaw : Obligations.EveryStepKeepsTheCellLaw := by
  intro s t windows banks cells next
  obtain ⟨-, banked, held⟩ := State.Moves.keeps (P := fun s => s.WindowsLawful ∧ s.Stored)
    (fun _ _ move h => ⟨move.keepsWindows trivial h.1, move.keepsStored trivial h.1 h.2⟩)
    (State.moves_step (pieces := False) (windows := True) (room := False) next ⟨False.elim, fun _ => windows, False.elim, False.elim⟩)
    ⟨windows, State.banksLawful_iff.mp banks, cells⟩
  exact ⟨State.banksLawful_iff.mpr banked, held⟩

/-- Settles O60: each move of a step finds a free place before it places a record, a forced advance by the count taken before it. -/
theorem everyStepKeepsTheQueueBound : Obligations.EveryStepKeepsTheQueueBound := fun _ _ windows banks bounded next =>
  State.Moves.keeps (fun _ _ move => move.keepsBound trivial)
    (State.moves_step (pieces := False) (windows := True) (room := True) next
      ⟨False.elim, fun _ => windows, id, fun _ => ⟨banks, bounded⟩⟩) bounded

end Sys2Proof.Machine
end


section
/-! Steps, resets and the reset pins (R153), and what a port ignores (R4 to R8). -/

namespace Sys2Proof.Machine

-- One after another, as in the tests: many proofs checked at once would each hold a thread.
set_option Elab.async false

/-- Settles O1: the two branches of a step. -/
theorem stepRunsTheFrontCommand : Obligations.StepRunsTheFrontCommand := by
  refine ⟨fun c rest s waiting => ?_, fun s none => ?_⟩
  · simp only [step, waiting]
  · simp only [step, none, State.tick]

/-- Settles O3: each piece of the reset state reads its owner's table. -/
theorem resetLeavesThePowerOnValues : Obligations.ResetLeavesThePowerOnValues := by
  refine ⟨rfl, rfl, rfl, rfl, rfl, fun p => ?_, fun i => ?_, fun g => ?_, fun p => ?_, ?_, ?_, rfl, rfl, rfl, by decide, rfl, rfl, by decide⟩
  · simp [State.reset, State.node, NodePort.initial]
  · simp [State.reset, State.stream, Stream.initial]
  · simp [State.reset, State.group, Group.initial, Templates.initial]
  · simp [State.reset, State.trunk, Trunk.initial]
  · simp [State.reset]
  · simp [State.reset]

/-- Settles O52: a rise sets one place of the counter set to the saturated sum. -/
theorem countersSaturate : Obligations.CountersSaturate := by
  intro n v i k
  refine ⟨?_, fun j other => ?_⟩
  · simp only [raise, Vector.getElem_set_self, saturate]
    split <;> omega
  · simp only [raise]
    exact Vector.getElem_set_ne _ _ fun same => other (Fin.ext same.symm)

/-! ### The resets (R2, R117, R153) -/

theorem State.reset_node (p : NodeId) : State.reset.node p = NodePort.initial := by simp [State.reset, State.node]

theorem State.reset_stream (i : StreamId) : State.reset.stream i = Stream.initial := by simp [State.reset, State.stream]

theorem State.reset_group (g : GroupId) : State.reset.group g = Group.initial := by simp [State.reset, State.group]

theorem State.reset_trunk (p : TrunkId) : State.reset.trunk p = Trunk.initial := by simp [State.reset, State.trunk]

theorem State.powerOn_node (s : State) (p : NodeId) : s.powerOn.node p = (s.node p).atReset := by simp [State.powerOn, State.node]

theorem State.powerOn_trunk (s : State) (p : TrunkId) : s.powerOn.trunk p = (s.trunk p).atReset (s.bytesOut p) := by
  simp [State.powerOn, State.trunk]

theorem State.powerOn_atInitialValues (s : State) : s.AtInitialValues s.powerOn := by
  refine ⟨fun p => ?_, fun i => ?_, fun g => ?_, fun p => ⟨s.bytesOut p, ?_⟩, ?_⟩
  · rw [State.powerOn_node, State.reset_node]; rfl
  · rw [State.powerOn_stream, State.reset_stream]
  · rw [State.powerOn_group, State.reset_group]
  · rw [State.powerOn_trunk, State.reset_trunk, Trunk.atReset_eq]
  · simp only [State.powerOn]
    exact ⟨rfl, rfl, trivial, trivial, rfl, rfl, trivial⟩

theorem State.pinReset_atInitialValues (s : State) : s.AtInitialValues s.pinReset := by
  obtain ⟨nodes, streams, groups, trunks, lastNode, intake, -, -, lastTrunk, soft, pending⟩ := s.powerOn_atInitialValues
  exact ⟨nodes, streams, groups, trunks, lastNode, intake, by simp [State.pinReset, State.powerOn], by simp [State.pinReset, State.powerOn],
    lastTrunk, soft, pending⟩

/-- Whether FAULT_N is asserted hangs on the fault log and the alert mask alone (R166). -/
theorem State.faultNLow_congr {s t : State} (log : t.log = s.log) (mask : t.alertMask = s.alertMask) : t.faultNLow = s.faultNLow := by
  simp [State.faultNLow, State.alertCondition, log, mask]

/-- Settles O4: POWER_ON_RESET is the power-on state, and PIN_RESET that state with what R153 keeps. -/
theorem resetPinsAreTaken : Obligations.ResetPinsAreTaken := by
  refine ⟨fun s => ⟨_, rfl, s.powerOn_atInitialValues, rfl, rfl, rfl, rfl, ?_, rfl, rfl, rfl⟩, fun s => ⟨fun free => ?_, fun held => ?_⟩⟩
  · have silent : State.reset.faultNLow = false := by decide
    exact (State.faultNLow_congr (s := State.reset) rfl rfl).trans silent
  · have taken : exec .pinReset s = .next ({ s with resetNLow := true } : State).pinReset := by
      simp only [exec, execPinReset, free, if_true]
    exact ⟨_, taken, State.pinReset_atInitialValues _, rfl, rfl, rfl, rfl, State.faultNLow_congr rfl rfl, rfl, rfl, rfl⟩
  · simp only [exec, execPinReset, held, if_false]

/-- Settles O5: a release is the look of every port at its line, and a held part answers each other event with itself. -/
theorem heldPartAndItsRelease : Obligations.HeldPartAndItsRelease := by
  refine ⟨fun s => ⟨fun power high => ?_, fun power low => ?_, fun other => ?_, fun pin => ?_, fun other => ?_⟩, fun c s held => ?_⟩
  · have released : exec .powerOnResetRelease s = .next s.release := by
      simp only [exec, execPowerOnResetRelease, power, if_true, State.releasePower, high, Bool.false_eq_true, if_false]
    exact released.trans rfl
  · have taken : exec .powerOnResetRelease s = .next s.pinReset := by
      simp only [exec, execPowerOnResetRelease, power, if_true, State.releasePower, low]
    exact ⟨_, taken, s.pinReset_atInitialValues, rfl, low, rfl, rfl, rfl, rfl, rfl⟩
  · simp only [exec, execPowerOnResetRelease, other, if_false]
  · simp only [exec, execPinResetRelease, pin, if_true]
    rfl
  · simp only [exec, execPinResetRelease, other, if_false]
  · cases c
    case powerOnReset | powerOnResetRelease | pinReset | pinResetRelease => trivial
    case nodeSignalPresent p => exact exec_nodeSignalPresent_of_held held p
    case nodeSignalLoss p => exact exec_nodeSignalLoss_of_held held p
    case trunkSignalPresent p => exact exec_trunkSignalPresent_of_held held p
    case trunkSignalLoss p => exact exec_trunkSignalLoss_of_held held p
    all_goals exact exec_of_held held rfl rfl

/-- Settles O54: the reset state's pieces are lawful, nothing is open, queued or bound, and every row and cell is free. -/
theorem lawsHoldAtReset : Obligations.LawsHoldAtReset := by
  have pieces : State.reset.PiecesSound := {
    nodes := fun p => by rw [State.reset_node]; exact NodePort.atReset_lawful NodePort.initial
    trunks := fun p => by rw [State.reset_trunk]; exact Trunk.atReset_lawful Trunk.initial 0
    streams := fun i => by rw [State.reset_stream]; exact Stream.initial_lawful
    groups := fun g => by
      rw [State.reset_group]
      exact ⟨Templates.initial_lawful, by simp [Group.paramsLawful, Group.initial], Nat.zero_le _, countersLawful_zero 12⟩
    log := ⟨Nat.zero_le _, nofun, Nat.zero_le _, rfl⟩
    softCount := Nat.zero_le _ }
  have stored : State.reset.Stored := by
    refine State.stored_of_free (by simp [State.reset]) (fun g => ?_) (fun g => ?_) fun g => ?_ <;> rw [State.reset_group]
    · exact Templates.initial_lawful
    · rfl
    · rfl
  refine ⟨State.piecesLawful_iff.mpr ⟨pieces, fun held => absurd rfl held⟩, State.rowsLawful_of_free (by simp [State.reset]) fun g => ?_,
    State.bindingsLawful_of_initial State.reset_stream State.reset_group, State.windowsLawful_iff.mpr ⟨fun g => ?_, nofun⟩,
    State.banksLawful_iff.mpr stored.banked, stored.cells, fun g => ?_⟩ <;> rw [State.reset_group]
  · rfl
  · exact Group.placed_of_unset (by simp [Group.paramsLawful, Group.initial]) rfl rfl rfl (fun _ => rfl) nofun nofun nofun
  · exact Nat.zero_le _

/-! ### What a port ignores (R4 to R8, R118) -/

/-- Settles O10: the branch of each link state. -/
theorem truncatedAndIgnoredUnits : Obligations.TruncatedAndIgnoredUnits := by
  have same : ∀ s : State, s.withWaits (fun s => s) = s := fun s => s.withWaits_of_same (fun s => s) fun _ => rfl
  refine ⟨fun s ending free => ⟨fun p => ?_, fun p => ?_⟩, fun s symbols free => ⟨fun p off => ?_, fun p off => ?_, fun p down => ?_, fun p down => ?_⟩⟩
  · cases link : (s.node p).link <;> cases ending <;>
      simp [exec, execNodeTruncatedUnit, State.unlessHeld_of_none free, link, afterTruncation]
  · cases link : (s.trunk p).link <;> cases ending <;>
      simp [exec, execTrunkTruncatedUnit, State.unlessHeld_of_none free, link, afterTrunkTruncation]
  · simp only [exec, execNodeIdleSequence, State.unlessHeld_of_none free]
    rw [s.modNode_id p NodePort.idleSequence]
    cases link : (s.node p).link <;> simp_all [NodePort.idleSequence]
  · simp only [exec, execTrunkIdleSequence, State.unlessHeld_of_none free]
    refine congrArg Host.Outcome.next ((s.withWaits_congr _ (fun s => s) ?_).trans (same s))
    cases link : (s.trunk p).link <;> simp_all
  · simp only [exec, execNodeUnitEnd, execNodeStraySymbol, State.unlessHeld_of_none free, down, and_self]
  · have ignores : ∀ f : State → State, f s = s → s.withWaits f = s := fun f h => (s.withWaits_congr f (fun s => s) h).trans (same s)
    simp only [exec, execTrunkUnitEnd, execTrunkStraySymbol, State.unlessHeld_of_none free]
    exact ⟨congrArg _ (ignores _ (by simp [down])), congrArg _ (ignores _ (by simp [down]))⟩

end Sys2Proof.Machine
end


section
/-! The intake and the row deadlines (R17, R63 to R76). -/

namespace Sys2Proof.Machine

-- One after another, as in the tests: many proofs checked at once would each hold a thread.
set_option Elab.async false

section
variable {s : State}

/-! ### The intake arbiter (R17) -/

theorem execIntakeTaking_of_next {p : NodeId} (free : s.hold = .none) (idle : s.intake = none) (next : s.nextNode = some p) :
    exec .intakeTaking s = .next (s.takeMessage p) := by
  simp only [exec, execIntakeTaking, State.unlessHeld_of_none free, idle, next]

/-- Settles O11: the search of the arbiter finds the first port in rotation, and the taking is that port's head message. -/
theorem intakeServesThePortsInRotation : Obligations.IntakeServesThePortsInRotation := by
  refine fun s free => ⟨fun p m rest idle waiting first => ?_, fun none => ?_⟩
  · have next : s.nextNode = some p := searchOrder_find s.lastNode _ p (by simp [waiting]) fun q nearer => by simp [first q nearer]
    rw [execIntakeTaking_of_next free idle next, State.takeMessage, waiting]
    refine congrArg Host.Outcome.next (congrArg (fun t : State => t.classify p m) (State.modNode_congr _ _ _ _ ?_))
    have node : ({ s with lastNode := p } : State).node p = s.node p := rfl
    rw [node, NodePort.takeHead, waiting]
    cases rest <;> simp
  · simp only [exec, execIntakeTaking, State.unlessHeld_of_none free]
    rcases none with busy | empty
    · obtain ⟨w, waits⟩ := Option.ne_none_iff_exists'.mp busy
      simp only [waits]
    · have idle : s.nextNode = none := by simp [State.nextNode, empty]
      simp only [idle]
      cases s.intake <;> rfl

/-! ### Steps 1 to 6 (R64 to R66) -/

theorem GroupState.isStopped_iff {x : GroupState} : x.isStopped = true ↔ x = .stopped ∨ x = .aborting := by
  cases x <;> simp [GroupState.isStopped]

theorem GroupState.isStopped_eq_false {x : GroupState} : x.isStopped = false ↔ x = .running ∨ x = .draining := by
  cases x <;> simp [GroupState.isStopped]

/-- Settles O12: the checks of steps 1 to 6 in order, each discard a counter of its own. -/
theorem discardsBeforeTheWindow : Obligations.DiscardsBeforeTheWindow := by
  refine fun s p m => ⟨fun disabled => ?_, fun enabled other => ?_, fun enabled port length => ?_, fun enabled port length unbound => ?_,
    fun g routes stopped => ?_, fun g gen slots routes active governs => ⟨fun absent => ?_, fun k x at_ own first off => ?_⟩⟩
  · simp [State.classify, disabled]
  · simp [State.classify, enabled, other]
  · simp [State.classify, enabled, port, length]
  · simp [State.classify, enabled, port, length, unbound]
  · rw [State.classify_of_routes routes, State.classifyIn, if_pos (GroupState.isStopped_iff.mpr stopped)]
  · have judged : (s.group g).judgeSlot (s.adjusted m) m.stream = .notInGeneration := by
      simp only [Group.judgeSlot, Templates.governing_of_governs governs, findSlot_none absent]
    simp only [State.classify_of_routes routes, State.classifyIn, GroupState.isStopped_eq_false.mpr active, Bool.false_eq_true, if_false,
      show (s.stream m.stream).adjust m.instant = s.adjusted m from rfl, judged]
  · have judged : (s.group g).judgeSlot (s.adjusted m) m.stream = .offCadence := by
      simp [Group.judgeSlot, Templates.governing_of_governs governs, findSlot_some at_ own first, Slot.due, off]
    simp only [State.classify_of_routes routes, State.classifyIn, GroupState.isStopped_eq_false.mpr active, Bool.false_eq_true, if_false,
      show (s.stream m.stream).adjust m.instant = s.adjusted m from rfl, judged]

/-! ### Steps 8 and 9 (R68 to R70) -/

/-- A logging and a change of a group do not meet. -/
theorem State.logFault_modGroup (s : State) (g : GroupId) (f : Group → Group) (l : Logging) :
    (s.modGroup g f).logFault l = (s.logFault l).modGroup g f := rfl

theorem State.synchronise_of_cursor {p : NodeId} {g : GroupId} {e n : Instant} {k : Nat} {gen : Generation} {m : SampleMsg}
    (set : (s.group g).cursor = some e) : s.synchronise p g n k gen m = s.placeAgainst p g e n k gen m := by
  simp only [State.synchronise, set]

/-- Settles O13: the position of the instant against the cursor, and for an early one the state, the rows and the policy. -/
theorem lateAndEarlyMessages : Obligations.LateAndEarlyMessages := by
  refine ⟨fun s p m g n k gen e places set deep late => ?_, fun s p m g n k gen e places set => ⟨fun running far near => ?_,
    fun draining near fresh => ?_⟩⟩
  · have run : (if (s.group g).lateRun < 64 then (s.group g).lateRun + 1 else 64) = min ((s.group g).lateRun + 1) 64 := by
      split <;> omega
    rw [State.classify_of_places places, State.synchronise_of_cursor set, State.placeAgainst, position_late (by omega) late]
    simp only [run, State.discardLate]
    split
    · simp only [State.logFault_modGroup, State.modGroup_modGroup]
    · rfl
  · have early : s.classify p m = s.takeEarly p g n k gen m := by
      simp [State.classify_of_places places, State.synchronise_of_cursor set, State.placeAgainst, position_early far near, running]
    refine ⟨fun none => ?_, fun some discard => ?_, fun some advance => ?_⟩
    · rw [early, State.takeEarly, if_pos none, State.resync]
    · simp only [early, State.takeEarly, if_neg some, discard, State.discardEarly]
    · simp only [early, State.takeEarly, if_neg some, advance]
  · have placed : s.placeMessage g n k gen m = s.countStream m.stream .drainingDiscards := by simp [State.placeMessage, fresh, draining]
    rw [State.classify_of_places places, State.synchronise_of_cursor set, State.placeAgainst, ← placed]
    by_cases inWindow : (n - e).toNat < (s.group g).depth
    · simp only [position_inWindow inWindow]
    · simp only [position_early (Nat.not_lt.mp inWindow) near, draining, if_true]

/-! ### Deadlines (R76) -/

/-- Settles O18: the deadline of an open row that has not passed sets its flag, and hands an attempt where the row is governing. -/
theorem deadlineExpirySetsTheFlag : Obligations.DeadlineExpirySetsTheFlag := by
  refine fun s g n free => ⟨fun r row fresh => ?_, fun expired => ?_⟩
  · obtain ⟨-, rfl⟩ := Group.rowAt_eq_some row
    have expires : exec (.rowDeadlineExpiry g r.instant) s = .next (s.expireRow g r) := by
      simp only [exec, execRowDeadlineExpiry, State.unlessHeld_of_none free, row, fresh, Bool.false_eq_true, if_false]
    rw [expires]
    refine congrArg Host.Outcome.next ?_
    have time : ({ s with time := if before s.time r.deadline then r.deadline else s.time } : State) = s.reachTime r.deadline := rfl
    have same : (s.reachTime r.deadline).group g = s.group g := rfl
    unfold State.expireRow
    rw [time]
    cases rows : (s.group g).rows with
    | nil => exact State.modGroup_congr _ _ _ _ (by simp [same, rows])
    | cons x xs =>
      dsimp only
      split
      · next governing =>
        rw [State.handAttempt, State.modGroup_modGroup]
        exact State.modGroup_congr _ _ _ _ (by simp [same, rows, governing])
      · next behind => exact State.modGroup_congr _ _ _ _ (by simp [same, rows, behind])
  · simp only [exec, execRowDeadlineExpiry, State.unlessHeld_of_none free]
    cases row : (s.group g).rowAt n with
    | none => rfl
    | some r => simp only [expired r row, if_true]

end

end Sys2Proof.Machine
end


section
/-! The first sample of an instant (R67, R74, R75). -/

namespace Sys2Proof.Machine

-- One after another, as in the tests: many proofs checked at once would each hold a thread.
set_option Elab.async false

section
variable {s : State} {g : GroupId} {n e : Instant} {k : Nat} {gen : Generation} {m : SampleMsg} {c : CellId} {cs : List CellId} {rid : RowId}
  {rids : List RowId}

/-- A RUNNING group's message in the window, or one that synchronises it, goes on to step 10 with the cursor at `e`. -/
theorem State.classify_of_entry {p : NodeId} (places : s.Places p m g n k gen) (running : (s.group g).state = .running)
    (entry : (s.group g).cursor = none ∧ e = n ∧ 1 ≤ (s.group g).depth ∨ (s.group g).cursor = some e ∧ (n - e).toNat < (s.group g).depth) :
    s.classify p m = (s.modGroup g fun x => { x with cursor := some e }).placeMessage g n k gen m := by
  rw [State.classify_of_places places]
  rcases entry with ⟨unset, rfl, depth⟩ | ⟨set, inWindow⟩
  · exact State.synchronise_of_unset running unset depth
  · rw [State.synchronise_of_inWindow set inWindow, s.modGroup_id g _ (by rw [← set])]

/-- The first open row has instant `n` exactly when it is the row just opened for `n`. -/
theorem head_insertRow_iff {r : Row} {rows : List Row} (fresh : ∀ x ∈ rows, x.instant ≠ r.instant) :
    (insertRow e r rows).head?.map Row.instant = some r.instant ↔ (insertRow e r rows).head? = some r := by
  cases h : insertRow e r rows with
  | nil => simp
  | cons x xs =>
    have mem : x = r ∨ x ∈ rows := mem_insertRow.mp (h ▸ List.mem_cons_self ..)
    simp only [List.head?_cons, Option.map_some, Option.some.injEq]
    exact ⟨fun same => mem.resolve_right fun old => fresh x old same, fun same => by rw [same]⟩

/-- Whether the governing row is ripe and stands at `n`, where no other row does. -/
theorem Group.ripeGoverning_insertRow {x : Group} {r : Row} {rows : List Row} (open_ : x.rows = insertRow e r rows)
    (fresh : ∀ y ∈ rows, y.instant ≠ r.instant) :
    x.ripeGoverning.map Row.instant = some r.instant ↔ (insertRow e r rows).head? = some r ∧ x.rowRipe r = true := by
  rw [← head_insertRow_iff fresh, ← open_]
  unfold Group.ripeGoverning
  cases h : x.rows with
  | nil => simp
  | cons y ys =>
    have mem : y = r ∨ y ∈ rows := mem_insertRow.mp (open_ ▸ h ▸ List.mem_cons_self ..)
    by_cases same : y.instant = r.instant
    · obtain rfl : y = r := mem.resolve_right fun old => fresh y old same
      cases ripe : x.rowRipe y <;> simp [ripe]
    · cases ripe : x.rowRipe y <;> simp [ripe, same]

/-- A stream's counter and a change of a group do not meet. -/
theorem State.countStream_modGroup (s : State) (i : StreamId) (c : StreamCounter) (g : GroupId) (f : Group → Group) :
    (s.countStream i c).modGroup g f = (s.modGroup g f).countStream i c := rfl

/-- A row just opened for `n`, with cell `c` in slot `k` (R74, R75). -/
def State.openedRow (s : State) (g : GroupId) (rid : RowId) (n : Instant) (gen : Generation) (k : Nat) (c : CellId) : Row :=
  { s.newRow g rid n gen with slotMap := (s.newRow g rid n gen).slotMap.set k (some c) }

theorem Group.fillSlot_newRow {x : Group} (fresh : ∀ y ∈ x.rows, y.instant ≠ n) :
    ({ x with rows := insertRow e (s.newRow g rid n gen) x.rows } : Group).fillSlot n k c =
      { x with rows := insertRow e (s.openedRow g rid n gen k c) x.rows } := by
  exact congrArg (fun rows : List Row => ({ x with rows := rows } : Group)) (map_insertRow (r := s.newRow g rid n gen)
    (r' := s.openedRow g rid n gen k c) (f := fun r => if r.instant = n then { r with slotMap := r.slotMap.set k (some c) } else r) (if_pos rfl) rfl fun y open_ => if_neg (fresh y open_))

/-- Steps 12 to 14 with a cell and a row free: what is taken, written and opened, before the attempt (R74, R75). -/
theorem State.openAndStore_of_free (cells : s.freeCells = c :: cs) (rowIds : s.freeRows = rid :: rids) (set : (s.group g).cursor = some e)
    (fresh : (s.group g).rowAt n = none) :
    s.openAndStore g n k gen m =
      (((({ s with freeCells := cs, freeRows := rids } : State).writeCell c m.payload).modGroup g fun x =>
        { x with rows := insertRow e (s.openedRow g rid n gen k c) x.rows, lateRun := 0, lateLogged := false }).countStream m.stream
          .accepted).attemptIfRipe g n := by
  have opens : s.openAndStore g n k gen m = (({ s with freeRows := rids } : State).modGroup g fun x =>
      { x with rows := insertRow (x.cursor.getD n) (s.newRow g rid n gen) x.rows }).store g n k m := by
    simp only [State.openAndStore, cells, rowIds]
  refine opens.trans ((State.store_of_cell (s := ({ s with freeRows := rids } : State).modGroup g _) cells).trans ?_)
  refine congrArg (fun t : State => (t.countStream m.stream .accepted).attemptIfRipe g n) ?_
  refine (State.modGroup_modGroup (({ s with freeCells := cs, freeRows := rids } : State).writeCell c m.payload) g
    (fun x => { x with rows := insertRow (x.cursor.getD n) (s.newRow g rid n gen) x.rows })
    (fun x => { x.fillSlot n k c with lateRun := 0, lateLogged := false })).trans (State.modGroup_congr _ _ _ _ ?_)
  have same : ((({ s with freeCells := cs, freeRows := rids } : State).writeCell c m.payload).group g) = s.group g := rfl
  rw [same, set, Option.getD_some, ← set, Group.fillSlot_newRow (Group.instant_ne_of_rowAt_none fresh)]

end

/-- Settles O14: past the synchronisation the message opens its row and fills its slot, and the row just opened is the governing one when
it stands first. -/
theorem firstSampleOpensARow : Obligations.FirstSampleOpensARow := by
  intro s p m g n k gen e c cs rid rids places running fresh entry cells rowIds row rows governing
  have group : ((s.modGroup g fun x => { x with cursor := some e }).group g) = { s.group g with cursor := some e } := State.group_modGroup_self ..
  have opened : (s.modGroup g fun x => { x with cursor := some e }).openedRow g rid n gen k c = row := by
    simp only [State.openedRow, State.newRow, group]; rfl
  have stored := State.openAndStore_of_free (s := s.modGroup g fun x => { x with cursor := some e }) (e := e) (n := n) (k := k) (gen := gen)
    (m := m) (g := g) cells rowIds (by rw [group]) (by rw [group]; exact fresh)
  rw [State.classify_of_entry places running entry, State.placeMessage_of_no_row (by rw [group]; exact running) (by rw [group]; exact fresh),
    stored, opened, State.attemptIfRipe_eq]
  have ripe := Group.ripeGoverning_insertRow (e := e) (r := row) (rows := (s.group g).rows)
    (x := { s.group g with cursor := some e, rows := insertRow e row (s.group g).rows, lateRun := 0, lateLogged := false }) rfl
    (Group.instant_ne_of_rowAt_none fresh)
  have unexpired : ({ s.group g with cursor := some e, rows := insertRow e row (s.group g).rows, lateRun := 0, lateLogged := false } : Group).rowRipe
      row = (s.group g).rowComplete row := Bool.or_false _
  rw [unexpired] at ripe
  have joined := congrArg (fun t : State => t.countStream m.stream .accepted)
    (State.modGroup_modGroup (({ s with freeCells := cs, freeRows := rids } : State).writeCell c m.payload) g
      (fun x => { x with cursor := some e }) (fun x => { x with rows := insertRow e row x.rows, lateRun := 0, lateLogged := false }))
  have holds : ((((({ s with freeCells := cs, freeRows := rids } : State).writeCell c m.payload).modGroup g fun x =>
      { x with cursor := some e, rows := insertRow e row x.rows, lateRun := 0, lateLogged := false }).countStream m.stream .accepted).group g) =
      { s.group g with cursor := some e, rows := insertRow e row (s.group g).rows, lateRun := 0, lateLogged := false } := by
    rw [State.countStream_group]
    exact State.group_modGroup_self _ _ _
  refine (congrArg (fun t : State => if (t.group g).ripeGoverning.map Row.instant = some n then
    t.modGroup g fun x => { x with attempts := x.attempts + 1 } else t) joined).trans ?_
  dsimp only
  rw [holds]
  by_cases first : rows.head? = some row ∧ (s.group g).rowComplete row = true
  · rw [if_pos (ripe.mpr first)]
    have governs : governing = true := by simpa [governing] using first
    refine (State.countStream_modGroup _ _ _ _ _).trans (congrArg (fun t : State => t.countStream m.stream .accepted)
      ((State.modGroup_modGroup _ _ _ _).trans (State.modGroup_congr _ _ _ _ ?_)))
    rw [if_pos governs]; rfl
  · rw [if_neg fun both => first (ripe.mp both)]
    have behind : ¬governing = true := by simpa [governing] using first
    exact congrArg (fun t : State => t.countStream m.stream .accepted) (State.modGroup_congr _ _ _ _ (by rw [if_neg behind]; rfl))

end Sys2Proof.Machine
end


section
/-! The forced advance, taken or declined (R71, R94, R95), and the message that goes on (R20, R35). -/

namespace Sys2Proof.Machine

-- One after another, as in the tests: many proofs checked at once would each hold a thread.
set_option Elab.async false

/-! ### What an arrival leaves of the frame queues -/

/-- Trunk ports and frame queues are as they were, so that no credit wait begins or ends (R125). -/
structure State.SameQueues (s t : State) : Prop where
  trunks : t.trunks = s.trunks
  queue : ∀ g, (t.group g).queue = (s.group g).queue

section
variable {s t u : State} {g : GroupId} {n : Instant} {k : Nat} {gen : Generation} {m : SampleMsg}

theorem State.SameQueues.refl (s : State) : s.SameQueues s := ⟨rfl, fun _ => rfl⟩

theorem State.SameQueues.trans (h : s.SameQueues t) (k : t.SameQueues u) : s.SameQueues u :=
  ⟨k.trunks.trans h.trunks, fun g => (k.queue g).trans (h.queue g)⟩

theorem State.Quiet.sameQueues (h : s.Quiet t) (trunks : t.trunks = s.trunks) : s.SameQueues t := ⟨trunks, fun g => (h.groups g).queue⟩

theorem State.sameQueues_modGroup {f : Group → Group} (queue : (f (s.group g)).queue = (s.group g).queue) : s.SameQueues (s.modGroup g f) := by
  refine ⟨rfl, fun g' => ?_⟩
  rw [State.group_modGroup]
  split
  · next same => subst same; exact queue
  · rfl

theorem State.SameQueues.creditWait (h : s.SameQueues t) (p : TrunkId) : t.creditWait p = s.creditWait p := by
  have trunk : t.trunk p = s.trunk p := by simp only [State.trunk, h.trunks]
  exact State.creditWait_congr s t p (by rw [trunk]) (by rw [trunk]) (h.queue p)

/-- An event that leaves trunk ports and queues alone starts and stops no starve timer. -/
theorem State.SameQueues.withWaits {f : State → State} (h : s.SameQueues (f s)) : s.withWaits f = f s := s.withWaits_of_same f h.creditWait

theorem State.sameQueues_store (s : State) (g : GroupId) (n : Instant) (k : Nat) (m : SampleMsg) : s.SameQueues (s.store g n k m) := by
  cases free : s.freeCells with
  | nil => rw [State.store_of_no_cell free]; exact (s.quiet_exhaustCell g).sameQueues (by simp)
  | cons c cs =>
    rw [State.store_of_cell free]
    refine State.SameQueues.trans (t := { s with freeCells := cs }.writeCell c m.payload) ⟨rfl, fun _ => rfl⟩
      (State.SameQueues.trans (State.sameQueues_modGroup (g := g) (f := fun x => { x.fillSlot n k c with lateRun := 0, lateLogged := false }) rfl) ?_)
    exact ((State.quiet_countStream _ _ _).trans (State.quiet_attemptIfRipe _ _ _)).sameQueues (by simp)

theorem State.sameQueues_openAndStore (s : State) (g : GroupId) (n : Instant) (k : Nat) (gen : Generation) (m : SampleMsg) :
    s.SameQueues (s.openAndStore g n k gen m) := by
  cases cells : s.freeCells with
  | nil => rw [State.openAndStore_of_no_cell cells]; exact (s.quiet_exhaustCell g).sameQueues (by simp)
  | cons c cs =>
    cases rows : s.freeRows with
    | nil => rw [State.openAndStore_of_no_row (by simp [cells]) rows]; exact (s.quiet_exhaustRow g).sameQueues (by simp)
    | cons rid rest =>
      have opens : s.openAndStore g n k gen m = (({ s with freeRows := rest } : State).modGroup g fun x =>
          { x with rows := insertRow (x.cursor.getD n) (s.newRow g rid n gen) x.rows }).store g n k m := by
        simp only [State.openAndStore, cells, rows]
      rw [opens]
      exact State.SameQueues.trans (t := { s with freeRows := rest }) ⟨rfl, fun _ => rfl⟩ ((State.sameQueues_modGroup (g := g)
        (f := fun x => { x with rows := insertRow (x.cursor.getD n) (s.newRow g rid n gen) x.rows }) rfl).trans
          (State.sameQueues_store _ _ _ _ _))

theorem State.sameQueues_placeMessage (s : State) (g : GroupId) (n : Instant) (k : Nat) (gen : Generation) (m : SampleMsg) :
    s.SameQueues (s.placeMessage g n k gen m) := by
  unfold State.placeMessage
  split
  · split
    · exact (s.quiet_takeDuplicate _ m).sameQueues (by simp)
    · exact s.sameQueues_store g n k m
  · split
    · exact (s.quiet_countStream _ _).sameQueues rfl
    · exact s.sameQueues_openAndStore g n k gen m

theorem State.sameQueues_resumeMessage (s : State) (w : WaitingMsg) : s.SameQueues (s.resumeMessage w) := by
  unfold State.resumeMessage
  split
  · exact (s.quiet_countStream _ _).sameQueues rfl
  · split
    · exact (s.quiet_countStream _ _).sameQueues rfl
    · exact (s.quiet_countStream _ _).sameQueues rfl
    · unfold State.placeWaiting
      split
      · exact State.SameQueues.trans (t := { s with draws := s.draws + 1 }) ⟨rfl, fun _ => rfl⟩ (State.sameQueues_placeMessage _ _ _ _ _ _)
      · exact s.sameQueues_placeMessage _ _ _ _ _

/-! ### The advance, taken or declined -/

theorem execForcedAdvance_of_waiting {w : WaitingMsg} (free : s.hold = .none) (waits : s.intake = some w) :
    exec .forcedAdvance s = .next (s.withWaits fun _ => s.settleAdvance w) := by
  simp only [exec, execForcedAdvance, State.unlessHeld_of_none free]
  exact congrArg Host.Outcome.next (s.withWaits_congr _ _ (by simp only [waits]))

theorem State.settleAdvance_of_declined {w : WaitingMsg} (declined : (s.group w.group).advanceFrom w.instant = none) :
    s.settleAdvance w = ({ s with intake := none } : State).discardEarly w.group w.msg.stream := by
  have same : (({ s with intake := none } : State).group w.group).advanceFrom w.instant = none := declined
  simp only [State.settleAdvance, same]

theorem State.settleAdvance_of_taken {w : WaitingMsg} {e : Instant} (taken : (s.group w.group).advanceFrom w.instant = some e) :
    s.settleAdvance w =
      ((State.advanceTo w.group ((s.group w.group).advanceTarget w.instant) (s.group w.group).advanceFuel
        { s with intake := none }).resumeMessage w).handAttempt w.group := by
  have same : (({ s with intake := none } : State).group w.group).advanceFrom w.instant = some e := taken
  simp only [State.settleAdvance, same]
  rfl

theorem Group.advanceFrom_of_taken {x : Group} {e : Instant} (set : x.cursor = some e) (running : x.state = .running)
    (room : before e (x.advanceTarget n) = true → x.framesNeeded e (x.advanceTarget n) ≤ x.freePlaces) : x.advanceFrom n = some e := by
  simp only [Group.advanceFrom, set]
  exact if_pos ⟨running, room⟩

theorem Group.advanceFrom_of_declined {x : Group} (declined : x.state ≠ .running ∨ x.cursor = none ∨
    ∃ e, x.cursor = some e ∧ before e (x.advanceTarget n) = true ∧ x.freePlaces < x.framesNeeded e (x.advanceTarget n)) :
    x.advanceFrom n = none := by
  unfold Group.advanceFrom
  rcases declined with idle | unset | ⟨e, set, ahead, full⟩
  · cases x.cursor with
    | none => rfl
    | some e => exact if_neg fun h => idle h.1
  · rw [unset]
  · rw [set]; exact if_neg fun h => absurd (h.2 ahead) (by omega)

/-- The whole advance where nothing is open before its target and no bank is ARMED, under SKIP (R83, R84). -/
theorem State.advanceTo_skip {e target : Instant} {fuel : Nat} (set : (s.group g).cursor = some e) (ahead : before e target = true)
    (idle : (s.group g).templates.armed = none) (skip : (s.group g).empty = .skip) (lawful : ∀ x ∈ (s.group g).templates.activeSlots, x.Lawful)
    (beyond : ∀ r ∈ (s.group g).rows, distance e target ≤ distance e r.instant) :
    State.advanceTo g target (fuel + 1) s =
      (s.countGroup g .skipped (dueAmong (s.group g).templates.activeSlots e (distance e target))).modGroup g
        fun x => { x with cursor := some target } := by
  obtain ⟨pos, near⟩ := before_iff_distance.mp ahead
  have noRow : (s.group g).rowAt e = none := Group.rowAt_eq_none_iff.mpr fun r open_ same => by
    have := beyond r open_
    rw [same, distance_self] at this
    omega
  have whole : (s.group g).runLength e target = distance e target := by
    rcases nearest_attained e (distance e target) (s.group g).stops with limit | ⟨n, stop, -, attained⟩
    · exact limit
    · rcases Group.mem_stops.mp stop with ⟨r, open_, rfl⟩ | ⟨a, armed, -⟩
      · exact le_antisymm (nearest_le _ _ _) ((beyond r open_).trans_eq attained.symm)
      · rw [idle] at armed; cases armed
  have reached : e + BitVec.ofNat 32 (distance e target) = target := distance_inj (e := e) (distance_add (by omega))
  have run : s.passRun g e (distance e target) =
      (s.countGroup g .skipped (dueAmong (s.group g).templates.activeSlots e (distance e target))).moveCursor g target := by
    simp only [State.passRun, skip, or_true, if_true, State.skipInstants, dueInstants_eq lawful, reached]
  have short : ((s.countGroup g .skipped (dueAmong (s.group g).templates.activeSlots e (distance e target))).group g).switchesAt target = false := by
    rw [State.countGroup, State.group_modGroup_self]
    exact Bool.eq_false_iff.mpr fun switches => by
      obtain ⟨-, a, -, armed, -⟩ := Group.switchesAt_iff.mp switches
      rw [idle] at armed; cases armed
  rw [State.advanceTo_of_run set ahead noRow, whole, run, State.moveCursor_of_short short]
  exact State.advanceTo_of_reached (e := target) (by rw [State.group_modGroup_self]) (by simp [before])

/-- Where a message that has waited goes on when its stream's slot governs its instant. -/
theorem State.resumeMessage_of_found {w : WaitingMsg} (bound : (s.stream w.msg.stream).group = some w.group)
    (judged : (s.group w.group).judgeSlot w.instant w.msg.stream = .found k gen) : s.resumeMessage w = s.placeWaiting w k gen := by
  simp [State.resumeMessage, bound, judged]

end

/-- Settles O16: the close unit's own test decides, and the advance is `advanceTo` with a move left for everything it may meet. -/
theorem forcedAdvanceTakenOrDeclined : Obligations.ForcedAdvanceTakenOrDeclined := by
  refine ⟨fun s free => ⟨fun idle => ?idle, ?declined⟩, ?skip, ?taken,
    fun s w => ⟨fun unbound => ?unbound, fun k gen slots x bound governs at_ own first due => ?found⟩⟩
  case idle =>
    simp only [exec, execForcedAdvance, State.unlessHeld_of_none free]
    refine congrArg Host.Outcome.next ((s.withWaits_congr _ (fun s => s) ?_).trans (State.SameQueues.refl s).withWaits)
    simp only [idle]
  case declined =>
    intro w waits target declined
    rw [execForcedAdvance_of_waiting free waits, State.settleAdvance_of_declined (Group.advanceFrom_of_declined declined)]
    refine congrArg Host.Outcome.next (State.SameQueues.withWaits (f := fun _ => _) ?_)
    exact State.SameQueues.trans (t := { s with intake := none }) ⟨rfl, fun _ => rfl⟩
      ((State.quiet_discardEarly _ _ _).sameQueues (by simp))
  case skip =>
    intro s w e free waits running set idle skip lawful target ahead beyond skipped moved
    have noneNeeded : (s.group w.group).framesNeeded e target = 0 := by
      simp only [Group.framesNeeded, skip, Group.rowsBefore, List.length_eq_zero_iff, List.filter_eq_nil_iff, decide_eq_true_eq, not_lt]
      exact beyond
    have taken := Group.advanceFrom_of_taken (n := w.instant) set running fun _ => by rw [show Group.advanceTarget _ _ = target from rfl, noneNeeded]; omega
    have advanced : State.advanceTo w.group target (s.group w.group).advanceFuel { s with intake := none } = moved :=
      State.advanceTo_skip (s := { s with intake := none }) set ahead idle skip lawful beyond
    rw [execForcedAdvance_of_waiting free waits, State.settleAdvance_of_taken taken]
    change Host.Outcome.next (s.withWaits fun _ => ((State.advanceTo w.group target (s.group w.group).advanceFuel
      { s with intake := none }).resumeMessage w).handAttempt w.group) = _
    rw [advanced]
    refine congrArg Host.Outcome.next (State.SameQueues.withWaits (f := fun _ => _) ?_)
    have toMoved : ({ s with intake := none } : State).SameQueues moved :=
      (State.sameQueues_modGroup rfl).trans (State.sameQueues_modGroup rfl)
    exact State.SameQueues.trans (t := { s with intake := none }) ⟨rfl, fun _ => rfl⟩
      (toMoved.trans ((moved.sameQueues_resumeMessage w).trans (State.sameQueues_modGroup rfl)))
  case taken =>
    intro s w e free waits running set target room moved
    refine ⟨?_, fun params window banks ahead => ?_⟩
    · rw [execForcedAdvance_of_waiting free waits, State.settleAdvance_of_taken (Group.advanceFrom_of_taken set running room)]
      rfl
    refine State.advanceTo_reaches w.group target _ { s with intake := none } set (before_iff_distance.mp ahead).2 (fun r open_ => ?_) fun _ => ?_
    · have := (window.2 e set).1 r open_
      have := params.2.1
      omega
    · have switch : ((s.group w.group).meetsSwitch e target).toNat ≤ 1 := Bool.toNat_le _
      have row : ((s.group w.group).rowAt e).isNone.toNat ≤ 1 := Bool.toNat_le _
      change 2 * (s.group w.group).rows.length + ((s.group w.group).meetsSwitch e target).toNat + ((s.group w.group).rowAt e).isNone.toNat ≤ _
      omega
  case unbound => rw [State.resumeMessage, if_pos unbound]
  case found =>
    have judged : (s.group w.group).judgeSlot w.instant w.msg.stream = .found k gen := by
      simp [Group.judgeSlot, Templates.governing_of_governs governs, findSlot_some at_ own first, Slot.due, due]
    rw [State.resumeMessage_of_found bound judged]
    rcases s.placeWaiting_cases w k gen with ⟨long, placed⟩ | ⟨short, more, length, placed⟩
    · exact ⟨fun _ => placed, fun short => absurd short (by omega)⟩
    · exact ⟨fun long => absurd short (by omega), fun _ => ⟨more, length, placed⟩⟩

end Sys2Proof.Machine
end


section
/-! The moves of a walk and of a forced advance (R82 to R85, R94), and the outcomes of a close attempt (R81, R86). -/

namespace Sys2Proof.Machine

-- One after another, as in the tests: many proofs checked at once would each hold a thread.
set_option Elab.async false

section
variable {s : State} {g : GroupId} {e : Instant} {r : Row} {fuel : Nat}

/-! ### One empty instant (R83 to R85) -/

theorem dueCount_eq_zero_iff {slots : List Slot} {n : Instant} : dueCount slots n = 0 ↔ dueSlots slots n = [] := List.length_eq_zero_iff

/-- A rise by 0 changes no lawful counter. -/
theorem State.countGroup_zero (lawful : countersLawful (s.group g).counters) (c : GroupCounter) : s.countGroup g c 0 = s := by
  refine s.modGroup_id g _ ?_
  have same : raise (s.group g).counters c.index 0 = (s.group g).counters := by
    refine Vector.ext fun i hi => ?_
    rw [raise, Vector.getElem_set]
    split
    · next at_ => subst at_; exact min_eq_left (countersLawful_iff.mp lawful _ hi)
    · rfl
  rw [same]

theorem State.passEmpty_of_silent (lawful : countersLawful (s.group g).counters) (none : dueSlots (s.group g).templates.activeSlots e = []) :
    s.passEmpty g e = s.moveCursor g (e + 1) := by
  rw [State.passEmpty, if_pos (dueCount_eq_zero_iff.mpr none), State.skipInstants, State.countGroup_zero lawful]
  rfl

theorem State.passEmpty_of_skip (due : dueSlots (s.group g).templates.activeSlots e ≠ []) (skip : (s.group g).empty = .skip) :
    s.passEmpty g e = (s.countGroup g .skipped 1).moveCursor g (e + 1) := by
  rw [State.passEmpty, if_neg (mt dueCount_eq_zero_iff.mp due), skip]
  rfl

theorem State.passEmpty_of_emit (due : dueSlots (s.group g).templates.activeSlots e ≠ []) (emit : (s.group g).empty = .emit) :
    s.passEmpty g e = ((s.placeRecord g (s.emptyRecord g e)).moveCursor g (e + 1)).choose g := by
  rw [State.passEmpty, if_neg (mt dueCount_eq_zero_iff.mp due), emit]
  rfl

theorem Group.needsPlace_iff {x : Group} : x.needsPlace e = true ↔ x.empty = .emit ∧ dueSlots x.templates.activeSlots e ≠ [] := by
  simp [Group.needsPlace, dueCount_eq_zero_iff]

/-! ### The walk (R82) -/

theorem Group.ripeGoverning_of_rows {x : Group} {rest : List Row} (rows : x.rows = r :: rest) (ripe : x.rowRipe r = true) :
    x.ripeGoverning = some r := by
  simp only [Group.ripeGoverning, rows, ripe, if_true]

theorem State.walk_of_unripe (unripe : (s.group g).ripeGoverning = none) : State.walk g fuel s = s := by
  cases fuel with
  | zero => rfl
  | succ fuel => simp only [State.walk, unripe]

theorem State.walk_of_passed (ripe : (s.group g).ripeGoverning = some r) (set : (s.group g).cursor = some e) (other : e ≠ r.instant)
    (room : (s.group g).needsPlace e = true → (s.group g).queue.length < 8) :
    State.walk g (fuel + 1) s = State.walk g fuel (s.passEmpty g e) := by
  have passes : ¬((s.group g).needsPlace e = true ∧ (s.group g).freePlaces = 0) := fun ⟨needs, full⟩ => by
    have := room needs
    have := Group.freePlaces_eq_zero.mp full
    omega
  simp only [State.walk, ripe, set, if_neg other, if_neg passes]

theorem State.walk_of_blocked (ripe : (s.group g).ripeGoverning = some r) (set : (s.group g).cursor = some e) (other : e ≠ r.instant)
    (needs : (s.group g).needsPlace e = true) (full : 8 ≤ (s.group g).queue.length) : State.walk g (fuel + 1) s = s := by
  simp only [State.walk, ripe, set, if_neg other, needs, Group.freePlaces_eq_zero.mpr full, and_self, if_true]

theorem State.walk_of_row (ripe : (s.group g).ripeGoverning = some r) (set : (s.group g).cursor = some r.instant)
    (room : (s.group g).queue.length < 8) : State.walk g (fuel + 1) s = State.walk g fuel (s.closeRow g r ((s.group g).walkReason r)) := by
  have free : ¬(s.group g).freePlaces = 0 := fun full => by have := Group.freePlaces_eq_zero.mp full; omega
  simp only [State.walk, ripe, set, if_true, if_neg free]

theorem State.walk_of_full (ripe : (s.group g).ripeGoverning = some r) (set : (s.group g).cursor = some r.instant)
    (full : 8 ≤ (s.group g).queue.length) : State.walk g (fuel + 1) s = s := by
  simp only [State.walk, ripe, set, if_true, Group.freePlaces_eq_zero.mpr full]

/-! ### The runs of a forced advance (R94) -/

/-- A run of empty instants ends at the first open row or S beyond its start, or at the target. -/
theorem Group.runLength_eq {x : Group} {target : Instant} {len : Nat} (pos : 1 ≤ len) (near : distance e target ≤ 2147483647)
    (within : len ≤ distance e target)
    (empty : ∀ i, 1 ≤ i → i < len → x.rowAt (e + BitVec.ofNat 32 i) = none ∧ ∀ a, x.templates.armed = some a → a.switchAt ≠ e + BitVec.ofNat 32 i)
    (ends : len = distance e target ∨ x.rowAt (e + BitVec.ofNat 32 len) ≠ none ∨
      ∃ a, x.templates.armed = some a ∧ a.switchAt = e + BitVec.ofNat 32 len) :
    x.runLength e target = len := by
  have far : distance e (e + BitVec.ofNat 32 len) = len := distance_add (by omega)
  refine le_antisymm ?_ ?_
  · rcases ends with limit | row | ⟨a, armed, at_⟩
    · rw [limit]; exact nearest_le _ _ _
    · obtain ⟨r, found⟩ := Option.ne_none_iff_exists'.mp row
      obtain ⟨open_, at_⟩ := Group.rowAt_eq_some found
      rw [← far, ← at_]
      exact nearest_le_of_mem (Group.mem_stops.mpr (Or.inl ⟨r, open_, rfl⟩)) (by rw [at_, far]; exact pos)
    · rw [← far, ← at_]
      exact nearest_le_of_mem (Group.mem_stops.mpr (Or.inr ⟨a, armed, rfl⟩)) (by rw [at_, far]; exact pos)
  · rcases nearest_attained e (distance e target) x.stops with limit | ⟨n, stop, ahead, attained⟩
    · rw [Group.runLength, limit]; exact within
    · by_contra short
      rw [Group.runLength] at short
      have near' : nearest e (distance e target) x.stops ≤ distance e target := nearest_le _ _ _
      obtain ⟨noRow, noSwitch⟩ := empty (distance e n) ahead (by omega)
      have at_ : e + BitVec.ofNat 32 (distance e n) = n := distance_inj (e := e) (distance_add (by omega))
      rw [at_] at noRow noSwitch
      rcases Group.mem_stops.mp stop with ⟨r, open_, same⟩ | ⟨a, armed, same⟩
      · exact Group.rowAt_eq_none_iff.mp noRow r open_ same
      · exact noSwitch a armed same

end

/-- Settles O20: each move of the walk and of the advance by the governing row, the cursor, the policy and the room in the queue. -/
theorem walkAndAdvanceMoves : Obligations.WalkAndAdvanceMoves := by
  refine ⟨?walk, ?advance, ?each⟩
  case walk =>
    intro s g fuel r rest e rows ripe set lawful due
    have governs := Group.ripeGoverning_of_rows rows ripe
    refine ⟨fun other none => ?_, fun other some skip => ?_, fun other some emit full => ?_, ?_, fun same full => ?_, fun same room => ?_⟩
    · rw [State.walk_of_passed governs set other fun needs => absurd none (Group.needsPlace_iff.mp needs).2, State.passEmpty_of_silent lawful none]
    · rw [State.walk_of_passed governs set other fun needs => absurd ((Group.needsPlace_iff.mp needs).1.symm.trans skip) nofun,
        State.passEmpty_of_skip some skip]
    · exact State.walk_of_blocked governs set other (Group.needsPlace_iff.mpr ⟨emit, some⟩) full
    · intro other some emit room record
      rw [State.walk_of_passed governs set other fun _ => room, State.passEmpty_of_emit some emit]
      rfl
    · subst same; exact State.walk_of_full governs set full
    · subst same; exact State.walk_of_row governs set room
  case advance =>
    intro s g target fuel e set
    refine ⟨fun reached => State.advanceTo_of_reached set reached, fun r ahead row => State.advanceTo_of_row set ahead row, ?_⟩
    intro len ahead noRow pos within empty ends lawful due
    have length := Group.runLength_eq pos (before_iff_distance.mp ahead).2 within empty ends
    rw [State.advanceTo_of_run set ahead noRow, length]
    have counted : dueInstants (s.group g).templates.activeSlots e len = due := dueInstants_eq lawful e len
    refine ⟨fun silent => ?_, fun emit some => ?_⟩
    · rw [State.passRun, counted, if_pos silent.symm]
      rfl
    · have loud : ¬(due = 0 ∨ (s.group g).empty = .skip) := not_or.mpr ⟨some, by rw [emit]; nofun⟩
      rw [State.passRun, counted, if_neg loud]
  case each =>
    intro s g len e set emit lawful due
    refine ⟨rfl, fun none => ?_, fun some => ?_⟩
    · rw [State.passEach, set]
      exact congrArg (State.passEach g len) (State.passEmpty_of_silent lawful none)
    · rw [State.passEach, set]
      exact congrArg (State.passEach g len) (State.passEmpty_of_emit some emit)

/-! ### Close attempts (R81, R86) -/

section
variable {s : State} {g : GroupId} {r : Row}

theorem execCloseAttempt_of_handed (free : s.hold = .none) (handed : (s.group g).attempts ≠ 0) :
    exec (.closeAttempt g) s = .next (s.withWaits fun _ => s.takeAttempt g) := by
  simp only [exec, execCloseAttempt, State.unlessHeld_of_none free]
  exact congrArg Host.Outcome.next (s.withWaits_congr _ _ (by simp only [if_neg handed]))

/-- An attempt that stops at once has been taken and leaves no mark. -/
theorem execCloseAttempt_of_stopped (free : s.hold = .none) (handed : (s.group g).attempts ≠ 0)
    (stops : s.takeAttempt g = s.modGroup g fun x => { x with attempts := x.attempts - 1 }) :
    exec (.closeAttempt g) s = .next (s.modGroup g fun x => { x with attempts := x.attempts - 1 }) := by
  rw [execCloseAttempt_of_handed free handed]
  refine congrArg Host.Outcome.next ((State.SameQueues.withWaits (f := fun _ => s.takeAttempt g) ?_).trans stops)
  rw [stops]
  exact State.sameQueues_modGroup rfl

theorem Group.ripeGoverning_eq_none {x : Group} (h : x.rows = [] ∨ ∃ r rest, x.rows = r :: rest ∧ r.expired = false ∧ x.rowComplete r = false) :
    x.ripeGoverning = none := by
  rcases h with none | ⟨r, rest, rows, fresh, partly⟩
  · simp only [Group.ripeGoverning, none]
  · simp [Group.ripeGoverning, rows, Group.rowRipe, fresh, partly]

/-- The last open row of a group closes, and the walk is over (R82, R86). -/
theorem State.walk_of_last_row {fuel : Nat} (rows : (s.group g).rows = [r]) (set : (s.group g).cursor = some r.instant)
    (ripe : (s.group g).rowRipe r = true) (room : (s.group g).queue.length < 8) :
    State.walk g (fuel + 1) s = s.closeRow g r ((s.group g).walkReason r) := by
  rw [State.walk_of_row (Group.ripeGoverning_of_rows rows ripe) set room]
  refine State.walk_of_unripe (Group.ripeGoverning_eq_none (Or.inl ?_))
  rw [(State.passed_closeRow set _).rows]
  simp [rows]

theorem State.closeRow_of_single (rows : (s.group g).rows = [r]) (reason : CloseReason) :
    s.closeRow g r reason =
      (((({ s.placeRecord g (s.recordOfRow g r reason) with freeRows := s.freeRows ++ [r.rowId] } : State).modGroup g fun x =>
        { x with rows := [] }).moveCursor g (r.instant + 1)).choose g) := by
  have released : ((s.placeRecord g (s.recordOfRow g r reason)).modGroup g fun x =>
        { x with rows := x.rows.filter fun y => y.instant != r.instant }).freeRowList [r.rowId] =
      ({ s.placeRecord g (s.recordOfRow g r reason) with freeRows := s.freeRows ++ [r.rowId] } : State).modGroup g fun x => { x with rows := [] } := by
    rw [State.modGroup_congr _ _ _ (fun x => { x with rows := [] }) (by rw [State.placeRecord_group_self]; simp [rows])]
    have kept : (s.placeRecord g (s.recordOfRow g r reason)).freeRows = s.freeRows := by simp
    rw [← kept]
    rfl
  rw [State.closeRow, released]

end

/-- Settles O19: the walk stops at once, closes the one row, or goes on by its moves, which its fuel suffices for. -/
theorem closeAttemptOutcomes : Obligations.CloseAttemptOutcomes := by
  refine ⟨fun s g free => ⟨fun none => ?_, fun handed nothing => ?_⟩, ?single, ?walk⟩
  · simp only [exec, execCloseAttempt, State.unlessHeld_of_none free]
    refine congrArg Host.Outcome.next ((s.withWaits_congr _ (fun s => s) ?_).trans (State.SameQueues.refl s).withWaits)
    simp only [none, if_true]
  · refine execCloseAttempt_of_stopped free handed (State.walk_of_unripe ?_)
    rw [State.group_modGroup_self]
    exact Group.ripeGoverning_eq_none (x := { s.group g with attempts := (s.group g).attempts - 1 }) nothing
  case single =>
    intro s g r free handed rows set ripe u slots record
    have group : u.group g = { s.group g with attempts := (s.group g).attempts - 1 } := State.group_modGroup_self ..
    have rows' : (u.group g).rows = [r] := by rw [group]; exact rows
    have set' : (u.group g).cursor = some r.instant := by rw [group]; exact set
    have ripe' : (u.group g).rowRipe r = true := by
      rw [group]
      exact (Bool.or_eq_true _ _).mpr ripe
    refine ⟨fun room => ?_, fun full => ?_⟩
    · rw [execCloseAttempt_of_handed free handed]
      refine congrArg Host.Outcome.next (s.withWaits_congr _ _ ?_)
      have walks : s.takeAttempt g = u.closeRow g r ((u.group g).walkReason r) :=
        State.walk_of_last_row rows' set' ripe' (by rw [group]; exact room)
      rw [walks, State.closeRow_of_single rows']
      have closed : u.recordOfRow g r ((u.group g).walkReason r) = record := by
        simp only [State.recordOfRow, group]
        rfl
      rw [closed]
      rfl
    · exact execCloseAttempt_of_stopped free handed (State.walk_of_full (Group.ripeGoverning_of_rows rows' ripe') set' (by rw [group]; exact full))
  case walk =>
    intro s g free handed t
    refine ⟨execCloseAttempt_of_handed free handed, fun params window unset => ?_⟩
    obtain ⟨e, set⟩ := Option.ne_none_iff_exists'.mp unset
    have group : ((s.modGroup g fun x => { x with attempts := x.attempts - 1 }).group g) =
      { s.group g with attempts := (s.group g).attempts - 1 } := State.group_modGroup_self ..
    obtain ⟨near, sorted⟩ := (Group.windowLawful_iff.mp window).2 e set
    refine State.walk_stops g 64 _ (e := e) (by rw [group]; exact set) (fun r open_ => ?_) (by rw [group]; exact sorted)
    rw [group] at open_
    exact (near r open_).trans_le params.2.1

end Sys2Proof.Machine
end


section
/-! Trunk ports: reception, timers and the ends of marks and replies (R118 to R127, R134, R137). -/

namespace Sys2Proof.Machine

-- One after another, as in the tests: many proofs checked at once would each hold a thread.
set_option Elab.async false

/-- Settles O34: the two clauses of what one event does to the starve timers. -/
theorem creditWaitRunsTheStarveTimer : Obligations.CreditWaitRunsTheStarveTimer :=
  fun s f p => ⟨(s.withWaits_spec f).1, (s.withWaits_spec f).2 p⟩

section
variable {s : State} {p : TrunkId}

/-! ### Events that start and stop no starve timer (R125) -/

/-- On each port a credit wait holds as before, or none holds and the timer stands still already. -/
def State.Settled (s t : State) : Prop :=
  ∀ q, t.creditWait q = s.creditWait q ∨ t.creditWait q = false ∧ (t.trunk q).starveTimer = none

theorem State.settleWait_of_settled {was : Bool} (h : s.creditWait p = was ∨ s.creditWait p = false ∧ (s.trunk p).starveTimer = none) :
    s.settleWait was p = s := by
  rw [State.settleWait_eq]
  refine s.modTrunk_id p _ ?_
  rcases h with same | ⟨none, stopped⟩
  · cases was <;> simp [same]
  · simp only [none, ← stopped, Bool.false_eq_true, false_and, and_false, and_true, if_false, ite_self]

theorem State.Settled.withWaits {f : State → State} (h : s.Settled (f s)) : s.withWaits f = f s := by
  unfold State.withWaits
  rw [State.settleWait_of_settled (h 0), State.settleWait_of_settled (h 1)]

theorem State.settled_of_same {t : State} (h : ∀ q, t.creditWait q = s.creditWait q) : s.Settled t := fun q => Or.inl (h q)

/-- A change of a trunk port that keeps its link and its balance. -/
theorem State.settled_modTrunk {f : Trunk → Trunk} (link : (f (s.trunk p)).link = (s.trunk p).link)
    (credit : (f (s.trunk p)).credit = (s.trunk p).credit) : s.Settled (s.modTrunk p f) := by
  refine State.settled_of_same fun q => State.creditWait_congr s _ q ?_ ?_ (by simp) <;> rw [State.trunk_modTrunk] <;> split
  · next same => subst same; exact link
  · rfl
  · next same => subst same; exact credit
  · rfl

/-- Outside UP no credit wait holds. -/
theorem State.creditWait_of_not_up (outside : (s.trunk p).link ≠ .up) : s.creditWait p = false := by
  simp [State.creditWait, outside]

/-! ### The commands of a port that no reset pin holds -/

theorem execTrunkIdleSequence_of_aligning (free : s.hold = .none) (aligning : (s.trunk p).link = .aligning) :
    exec (.trunkIdleSequence p) s = .next (s.withWaits fun _ => s.trunkAlignStep p) := by
  simp only [exec, execTrunkIdleSequence, State.unlessHeld_of_none free]
  exact congrArg Host.Outcome.next (s.withWaits_congr _ _ (by simp only [aligning]))

variable {symbols : List LineSymbol} {v : TrunkVerdict}

theorem execTrunkUnitEnd_of_aligning (free : s.hold = .none) (aligning : (s.trunk p).link = .aligning)
    (judged : judgeTrunk ((s.trunk p).reception.getD [] ++ symbols) = v) :
    exec (.trunkUnitEnd p symbols) s = .next (s.withWaits fun _ => (s.closeTrunkReception p).trunkAlignUnit p v) := by
  simp only [exec, execTrunkUnitEnd, State.unlessHeld_of_none free]
  exact congrArg Host.Outcome.next (s.withWaits_congr _ _ (by simp only [aligning, judged]))

theorem execTrunkUnitEnd_of_up (free : s.hold = .none) (up : (s.trunk p).link = .up)
    (judged : judgeTrunk ((s.trunk p).reception.getD [] ++ symbols) = v) :
    exec (.trunkUnitEnd p symbols) s = .next (s.withWaits fun _ => (s.closeTrunkReception p).trunkReceive p v) := by
  simp only [exec, execTrunkUnitEnd, State.unlessHeld_of_none free]
  exact congrArg Host.Outcome.next (s.withWaits_congr _ _ (by simp only [up, judged]))

theorem execTrunkStraySymbol_of_aligning (free : s.hold = .none) (aligning : (s.trunk p).link = .aligning) :
    exec (.trunkStraySymbol p symbols) s = .next (s.withWaits fun _ => s.modTrunk p Trunk.alignBreak) := by
  simp only [exec, execTrunkStraySymbol, State.unlessHeld_of_none free]
  exact congrArg Host.Outcome.next (s.withWaits_congr _ _ (by simp only [aligning]))

theorem execTrunkStraySymbol_of_up (free : s.hold = .none) (up : (s.trunk p).link = .up) :
    exec (.trunkStraySymbol p symbols) s = .next (s.withWaits fun _ => s.trunkCheckError p) := by
  simp only [exec, execTrunkStraySymbol, State.unlessHeld_of_none free]
  exact congrArg Host.Outcome.next (s.withWaits_congr _ _ (by simp only [up]))

/-! ### Units received -/

/-- Nothing in the closing of a reception begins or ends a credit wait. -/
theorem State.settled_closeTrunkReception (f : Trunk → Trunk) (link : ∀ x, (f x).link = x.link) (credit : ∀ x, (f x).credit = x.credit) :
    s.Settled ((s.closeTrunkReception p).modTrunk p f) := by
  rw [State.closeTrunkReception, State.modTrunk_modTrunk]
  exact State.settled_modTrunk (link _) (credit _)

theorem Trunk.queueRequest_link (x : Trunk) (r : Request) : (x.queueRequest r).link = x.link ∧ (x.queueRequest r).credit = x.credit := by
  unfold Trunk.queueRequest
  split <;> exact ⟨rfl, rfl⟩

/-- A CREDIT frame that adds, taken by a port whose balance comes to `balance` (R123). -/
theorem Trunk.takeCredit_add (x : Trunk) (count balance : Nat) (sum : min (x.credit + count) 255 = balance) :
    x.takeCredit .add count =
      { x with
        credit := balance, counters := raise x.counters TrunkCounter.creditExcess.index (x.credit + count - 255)
        starveLogged := if 1 ≤ balance then false else x.starveLogged
        starveTimer := if 1 ≤ balance then none else x.starveTimer } := by
  subst sum
  unfold Trunk.takeCredit
  dsimp only
  split
  · simp only
  · simp only

/-- A CREDIT frame that sets the balance (R123). -/
theorem Trunk.takeCredit_set (x : Trunk) (count : Nat) :
    x.takeCredit .set count =
      { x with
        credit := count, starveLogged := if 1 ≤ count then false else x.starveLogged
        starveTimer := if 1 ≤ count then none else x.starveTimer } := by
  unfold Trunk.takeCredit
  dsimp only
  split
  · simp only
  · simp only

/-- RESET's code is 22 alone (R175). -/
theorem RequestName.ofCode_eq_reset {code : Byte} (h : RequestName.ofCode code = some .reset) : code = 22 := by
  revert code; decide

end

/-- Settles O25: each verdict on a unit, and the step toward alignment, which at 4 enters UP. -/
theorem trunkAligningAndEnteringUp : Obligations.TrunkAligningAndEnteringUp := by
  intro s p free aligning step1 dropped
  have step : ∀ u : State, u.time = s.time → (u.trunk p).aligningRun = (s.trunk p).aligningRun → u.trunkAlignStep p = step1 u := by
    intro u time run
    rw [State.trunkAlignStep_eq, time, run]
  refine ⟨?_, fun symbols good => ?_, fun symbols bad => ?_, fun symbols => ?_⟩
  · rw [execTrunkIdleSequence_of_aligning free aligning, step s rfl rfl]
  · have steps : (s.closeTrunkReception p).trunkAlignStep p = step1 dropped :=
      step dropped rfl (by rw [State.trunk_modTrunk_self])
    rcases good with ⟨mode, count, judged⟩ | ⟨r, judged⟩
    · rw [execTrunkUnitEnd_of_aligning free aligning judged, State.trunkAlignUnit, steps]
    · rw [execTrunkUnitEnd_of_aligning free aligning judged, State.trunkAlignUnit, steps]
  · have still := State.Settled.withWaits (f := fun _ => (s.closeTrunkReception p).modTrunk p Trunk.alignBreak)
      (State.settled_closeTrunkReception Trunk.alignBreak (fun _ => rfl) (fun _ => rfl))
    rcases bad with judged | judged
    · rw [execTrunkUnitEnd_of_aligning free aligning judged]; exact congrArg Host.Outcome.next still
    · rw [execTrunkUnitEnd_of_aligning free aligning judged]; exact congrArg Host.Outcome.next still
  · rw [execTrunkStraySymbol_of_aligning free aligning]
    exact congrArg Host.Outcome.next (State.Settled.withWaits (f := fun _ => s.modTrunk p Trunk.alignBreak) (State.settled_modTrunk rfl rfl))

/-- Settles O27: the balance after a CREDIT frame, and a REQUEST frame queued or dropped. -/
theorem creditAndRequestFrames : Obligations.CreditAndRequestFrames := by
  refine ⟨?credit, ?request⟩
  case credit =>
    intro s p symbols mode count free up judged balance
    rw [execTrunkUnitEnd_of_up free up judged, State.trunkReceive, State.closeTrunkReception, State.modTrunk_modTrunk]
    refine congrArg Host.Outcome.next (s.withWaits_congr _ _ (congrArg (State.choose · p) (s.modTrunk_congr p _ _ ?_)))
    cases mode with
    | add => exact Trunk.takeCredit_add { s.trunk p with reception := none, failureRun := 0 } count _ (min_def _ _)
    | set => exact Trunk.takeCredit_set { s.trunk p with reception := none, failureRun := 0 } count
  case request =>
    intro s p symbols r free up judged
    rw [execTrunkUnitEnd_of_up free up judged, State.trunkReceive, State.closeTrunkReception, State.modTrunk_modTrunk]
    refine congrArg Host.Outcome.next ((State.Settled.withWaits
      (f := fun _ => s.modTrunk p fun x => ({ x with reception := none, failureRun := 0 } : Trunk).queueRequest r)
      (State.settled_modTrunk (Trunk.queueRequest_link _ r).1 (Trunk.queueRequest_link _ r).2)).trans ?_)
    exact s.modTrunk_congr p _ _ rfl

/-- Settles O29: each timer, running and stopped. -/
theorem trunkTimerExpiries : Obligations.TrunkTimerExpiries := by
  refine ⟨fun s p free => ⟨fun at_ running => ?_, fun stopped => ?_⟩, fun s p free => ⟨?mark, fun stopped => ?_⟩⟩
  · simp only [exec, execStarveTimerExpiry, State.unlessHeld_of_none free, running]
    rfl
  · simp only [exec, execStarveTimerExpiry, State.unlessHeld_of_none free, stopped]
  case mark =>
    intro at_ running now next
    have taken : exec (.markTimerExpiry p) s = .next (s.withWaits fun _ => s.expireMark p at_) := by
      simp only [exec, execMarkTimerExpiry, State.unlessHeld_of_none free]
      exact congrArg Host.Outcome.next (s.withWaits_congr _ _ (by simp only [running]))
    rw [taken]
    refine ⟨fun few => congrArg Host.Outcome.next (s.withWaits_congr _ _ ?_), fun full => congrArg Host.Outcome.next ?_⟩
    · simp only [State.expireMark, if_pos few, State.modTrunk_modTrunk]
      rfl
    · refine (State.Settled.withWaits (f := fun _ => s.expireMark p at_) ?_).trans ?_
      · simp only [State.expireMark, if_neg (Nat.not_lt.mpr full)]
        exact State.settled_modTrunk (s := s) (p := p) (f := fun x => { x with markTimer := some (at_ + BitVec.ofNat 32 x.markInterval) }) rfl rfl
      · simp only [State.expireMark, if_neg (Nat.not_lt.mpr full)]
        rfl
  · simp only [exec, execMarkTimerExpiry, State.unlessHeld_of_none free]
    exact congrArg Host.Outcome.next ((s.withWaits_congr _ (fun s => s) (by simp only [stopped])).trans (State.SameQueues.refl s).withWaits)

/-! ### Transmission ends (R127, R132, R134) -/

section
variable {s : State} {p : TrunkId} {u : TxUnit}

theorem execMarkTransmissionEnd_of_mark (free : s.hold = .none) (sends : (s.trunk p).sending = some .mark) :
    exec (.markTransmissionEnd p) s = .next (s.withWaits fun _ => s.endMark p) := by
  simp only [exec, execMarkTransmissionEnd, State.unlessHeld_of_none free]
  exact congrArg Host.Outcome.next (s.withWaits_congr _ _ (by simp only [sends]))

theorem execReplyTransmissionEnd_of_reply {r : Reply} {rest : List Reply} (free : s.hold = .none)
    (sends : (s.trunk p).sending = some .reply) (replies : (s.trunk p).replies = r :: rest) :
    exec (.replyTransmissionEnd p) s = .next (s.withWaits fun _ => s.endReply p r) := by
  simp only [exec, execReplyTransmissionEnd, State.unlessHeld_of_none free]
  exact congrArg Host.Outcome.next (s.withWaits_congr _ _ (by simp only [sends, replies]))

theorem execFrameTransmissionEnd_of_frame {head : FrameRecord} {rest : List FrameRecord} (free : s.hold = .none)
    (sends : (s.trunk p).sending = some .frame) (found : (s.group p).sendingHead = some (head, rest)) :
    exec (.frameTransmissionEnd p) s = .next (s.withWaits fun _ => s.endFrame p head rest) := by
  simp only [exec, execFrameTransmissionEnd, State.unlessHeld_of_none free]
  exact congrArg Host.Outcome.next (s.withWaits_congr _ _ (by simp only [sends, found]))

theorem Trunk.sending_of_tx {x : Trunk} (h : x.tx = some u) : x.sending = some u.kind := by rw [Trunk.sending, h]; rfl

theorem Trunk.sending_ne {x : Trunk} {kind : TxKind} (h : ∀ u, x.tx = some u → u.kind ≠ kind) : x.sending ≠ some kind := by
  rw [Trunk.sending]
  intro sends
  obtain ⟨u, tx, same⟩ := Option.map_eq_some_iff.mp sends
  exact h u tx same

/-- The port once a reply has left: the queue without it, the unit closed and counted. -/
theorem State.endReply_trunk {r : Reply} {rest : List Reply} (sends : (s.trunk p).tx = some u) (replies : (s.trunk p).replies = r :: rest) :
    ((s.modTrunk p fun x => { x with replies := x.replies.tail }).countTrunk p .repliesSent 1).modTrunk p Trunk.endUnit =
      s.modTrunk p fun x =>
        { x with
          tx := none, lastClosed := u.wholeOnLine, replies := rest
          counters := raise x.counters TrunkCounter.repliesSent.index 1 } := by
  rw [State.countTrunk, State.modTrunk_modTrunk, State.modTrunk_modTrunk]
  refine s.modTrunk_congr p _ _ ?_
  have left : (s.trunk p).replies.tail = rest := by rw [replies]; rfl
  rw [left]
  exact Trunk.endUnit_of_sending (x := { s.trunk p with replies := rest, counters := _ }) sends

end

/-- Settles O32: the unit that ends is the one in transmission, which the port then closes; of no unit of that kind nothing ends. -/
theorem markAndReplyEnds : Obligations.MarkAndReplyEnds := by
  refine ⟨fun s p u free tx => ⟨fun mark => ?_, fun r rest reply replies other => ?_⟩, fun s p free => ⟨fun none => ?_, fun none => ?_, fun none => ?_⟩⟩
  · rw [execMarkTransmissionEnd_of_mark free (by rw [Trunk.sending_of_tx tx, mark]), State.endMark, State.countTrunk, State.modTrunk_modTrunk]
    refine congrArg Host.Outcome.next (s.withWaits_congr _ _ (congrArg (State.choose · p) (s.modTrunk_congr p _ _ ?_)))
    exact Trunk.endUnit_of_sending (x := { s.trunk p with counters := _ }) tx
  · rw [execReplyTransmissionEnd_of_reply free (by rw [Trunk.sending_of_tx tx, reply]) replies, State.endReply, State.endReply_trunk tx replies]
    have notReset : ¬(s.softPending = some p ∧ RequestName.ofCode r.name = some .reset ∧ r.status = .ok) := by
      rintro ⟨pending, named, ok⟩
      rcases other with other | other | other
      · exact other pending
      · exact other (RequestName.ofCode_eq_reset named)
      · exact other ok
    rw [if_neg notReset]
  · simp only [exec, execMarkTransmissionEnd, State.unlessHeld_of_none free]
    refine congrArg Host.Outcome.next ((s.withWaits_congr _ (fun s => s) ?_).trans (State.SameQueues.refl s).withWaits)
    split
    · next sends => exact absurd sends (Trunk.sending_ne none)
    · rfl
    · rfl
    · rfl
  · simp only [exec, execReplyTransmissionEnd, State.unlessHeld_of_none free]
    refine congrArg Host.Outcome.next ((s.withWaits_congr _ (fun s => s) ?_).trans (State.SameQueues.refl s).withWaits)
    split
    · next sends _ => exact absurd sends (Trunk.sending_ne none)
    · rfl
  · simp only [exec, execFrameTransmissionEnd, State.unlessHeld_of_none free]
    refine congrArg Host.Outcome.next ((s.withWaits_congr _ (fun s => s) ?_).trans (State.SameQueues.refl s).withWaits)
    split
    · next sends _ => exact absurd sends (Trunk.sending_ne none)
    · rfl

end Sys2Proof.Machine
end


section
/-! A trunk port that leaves UP (R118, R119, R121, R133). -/

namespace Sys2Proof.Machine

-- One after another, as in the tests: many proofs checked at once would each hold a thread.
set_option Elab.async false

/-- The port's own share of a leaving of UP (R119, R121). -/
def State.cutOff (s : State) (p : TrunkId) (next : Link) : State :=
  { s with draws := s.draws + 1 }.modTrunk p fun x => x.leaveUp (s.bytesOut p) next

/-- The leaving of UP, without the soft reset that may be taken with it (R121, R133). -/
def State.leftUp (s : State) (p : TrunkId) (next : Link) : State :=
  (s.group p).sendingHead.elim ((s.cutOff p next).logFault (portLogging .trunkDown (.trunk p)))
    fun x => ((s.cutOff p next).loseFrame p x.1 x.2).logLoss p x.1.instant

/-- What takes a trunk port out of UP, before the leaving's own effects: a lost signal, or the last of eight failing units (R118). -/
def Trunk.losing (x : Trunk) (next : Link) (reception : Option (List LineSymbol)) : Trunk :=
  { x with
    line := if next = .down then false else x.line, reception := reception
    failureRun := if next = .down then x.failureRun else x.failureRun + 1
    counters := if next = .down then x.counters else raise x.counters TrunkCounter.checkErrorsIn.index 1 }

/-- A failing unit, counted (R118, R122). -/
def Trunk.checkError (x : Trunk) : Trunk :=
  { x with counters := raise x.counters TrunkCounter.checkErrorsIn.index 1, failureRun := x.failureRun + 1 }

section
variable {s : State} {p : TrunkId} {next : Link} {head : FrameRecord} {rest : List FrameRecord}

theorem State.trunkLeaveUp_eq : s.trunkLeaveUp p next = if s.softPending = some p then (s.leftUp p next).softReset else s.leftUp p next := by
  unfold State.trunkLeaveUp State.leftUp
  cases (s.group p).sendingHead <;> rfl

theorem State.trunkLeaveUp_of_pending (pending : s.softPending = some p) : s.trunkLeaveUp p next = (s.leftUp p next).softReset := by
  rw [State.trunkLeaveUp_eq, if_pos pending]

theorem State.trunkLeaveUp_of_not_pending (other : s.softPending ≠ some p) : s.trunkLeaveUp p next = s.leftUp p next := by
  rw [State.trunkLeaveUp_eq, if_neg other]

theorem State.leftUp_of_idle (idle : (s.group p).headSending = false) :
    s.leftUp p next = (s.cutOff p next).logFault (portLogging .trunkDown (.trunk p)) := by
  rw [State.leftUp, Group.sendingHead_eq_none.mpr idle]
  rfl

theorem State.leftUp_of_sending (found : (s.group p).sendingHead = some (head, rest)) :
    s.leftUp p next = ((s.cutOff p next).loseFrame p head rest).logLoss p head.instant := by
  rw [State.leftUp, found]
  rfl

theorem Group.sendingHead_cases (x : Group) : x.headSending = false ∨ ∃ head rest, x.sendingHead = some (head, rest) := by
  cases found : x.sendingHead with
  | none => exact Or.inl (Group.sendingHead_eq_none.mp found)
  | some y => exact Or.inr ⟨y.1, y.2, rfl⟩

theorem State.loseFrame_group_of_ne {g : GroupId} (h : g ≠ p) : (s.loseFrame p head rest).group g = s.group g := by
  have left : (((s.removeHead p head rest).countGroup p .framesLostOnLink 1).handAttempt p).group g = s.group g := by
    rw [State.handAttempt, State.group_modGroup_of_ne (h := h.symm), State.countGroup, State.group_modGroup_of_ne (h := h.symm),
      State.removeHead_group_of_ne _ h]
  rw [State.loseFrame]
  rcases State.afterLeaving_cases (((s.removeHead p head rest).countGroup p .framesLostOnLink 1).handAttempt p) p with
    ⟨_, _, after⟩ | ⟨_, after⟩ | ⟨_, _, after⟩
  · rw [after, State.completeDrain_group_of_ne h, left]
  · rw [after, State.group_modGroup_of_ne (h := h.symm), left]
  · rw [after, left]

theorem State.leftUp_trunks : (s.leftUp p next).trunks = (s.cutOff p next).trunks := by
  rcases Group.sendingHead_cases (s.group p) with idle | ⟨head, rest, found⟩
  · rw [State.leftUp_of_idle idle]; rfl
  · rw [State.leftUp_of_sending found]; simp

theorem State.leftUp_trunk (q : TrunkId) :
    (s.leftUp p next).trunk q = if p = q then (s.trunk p).leaveUp (s.bytesOut p) next else s.trunk q := by
  have same : (s.leftUp p next).trunk q = (s.cutOff p next).trunk q := congrArg (·.get q) State.leftUp_trunks
  rw [same, State.cutOff, State.trunk_modTrunk]
  split
  · next here => subst here; rfl
  · rfl

theorem State.leftUp_group_of_ne {g : GroupId} (h : g ≠ p) : (s.leftUp p next).group g = s.group g := by
  rcases Group.sendingHead_cases (s.group p) with idle | ⟨head, rest, found⟩
  · rw [State.leftUp_of_idle idle]; rfl
  · have same : (((s.cutOff p next).loseFrame p head rest).logLoss p head.instant).group g = ((s.cutOff p next).loseFrame p head rest).group g := by
      simp
    rw [State.leftUp_of_sending found, same, State.loseFrame_group_of_ne h]
    rfl

/-! ### No starve timer is started (R125) -/

theorem State.settled_leftUp (f : Trunk → Trunk) (outside : next ≠ .up) : s.Settled ((s.modTrunk p f).leftUp p next) := by
  intro q
  by_cases here : q = p
  · subst here
    have trunk : ((s.modTrunk q f).leftUp q next).trunk q = _ := State.leftUp_trunk q
    rw [if_pos rfl, Trunk.leaveUp_eq] at trunk
    exact Or.inr ⟨State.creditWait_of_not_up (by rw [trunk]; exact outside), by rw [trunk]⟩
  · have trunk : ((s.modTrunk p f).leftUp p next).trunk q = s.trunk q := by
      rw [State.leftUp_trunk, if_neg (Ne.symm here), State.trunk_modTrunk_of_ne (h := Ne.symm here)]
    exact Or.inl (State.creditWait_congr _ _ _ (by rw [trunk]) (by rw [trunk]) (by rw [State.leftUp_group_of_ne here]; rfl))

theorem Trunk.afterSoftReset (x : Trunk) (k : Nat) :
    (x.atSoftReset k).lookAtLine.link ≠ .up ∧ (x.atSoftReset k).lookAtLine.starveTimer = none := by
  unfold Trunk.lookAtLine
  split <;> exact ⟨nofun, rfl⟩

theorem State.settled_softReset (t : State) : s.Settled t.softReset := fun q =>
  Or.inr ⟨State.creditWait_of_not_up (by rw [State.softReset_trunk]; exact (Trunk.afterSoftReset _ _).1),
    by rw [State.softReset_trunk]; exact (Trunk.afterSoftReset _ _).2⟩

theorem State.settled_trunkLeaveUp (f : Trunk → Trunk) (outside : next ≠ .up) : s.Settled ((s.modTrunk p f).trunkLeaveUp p next) := by
  by_cases pending : (s.modTrunk p f).softPending = some p
  · rw [State.trunkLeaveUp_of_pending pending]; exact State.settled_softReset _
  · rw [State.trunkLeaveUp_of_not_pending pending]; exact State.settled_leftUp f outside

/-! ### Failing units and lost signals (R118, R121, R122) -/

theorem State.trunkCheckError_of_few (few : (s.trunk p).failureRun + 1 < 8) : s.trunkCheckError p = s.modTrunk p Trunk.checkError := by
  rw [State.trunkCheckError]
  exact if_neg (by rw [State.trunk_modTrunk_self]; exact Nat.not_le.mpr few)

theorem State.trunkCheckError_of_eighth (eighth : 8 ≤ (s.trunk p).failureRun + 1) :
    s.trunkCheckError p = (s.modTrunk p Trunk.checkError).trunkLeaveUp p .aligning := by
  rw [State.trunkCheckError]
  exact if_pos (by rw [State.trunk_modTrunk_self]; exact eighth)

/-- Without a frame to lose and a soft reset to take, the leaving is the port's own and TRUNK_DOWN's logging. -/
theorem State.trunkLeaveUp_of_plain (f : Trunk → Trunk) (idle : (s.group p).headSending = false) (other : s.softPending ≠ some p) :
    (s.modTrunk p f).trunkLeaveUp p next = (({ s with draws := s.draws + 1 } : State).modTrunk p fun x =>
      { f x with
        tx := none, lastClosed := (f x).closedByCut (s.bytesOut p), link := next
        aligningRun := if next = .aligning then 0 else (f x).aligningRun
        credit := 0, requests := [], replies := [], markDebt := 0, markTimer := none, starveTimer := none }).logFault
      (portLogging .trunkDown (.trunk p)) := by
  rw [State.trunkLeaveUp_of_not_pending (s := s.modTrunk p f) other, State.leftUp_of_idle (s := s.modTrunk p f) (by simpa using idle), State.cutOff]
  refine congrArg (State.logFault · _) ?_
  have draw : ({ s.modTrunk p f with draws := (s.modTrunk p f).draws + 1 } : State) = ({ s with draws := s.draws + 1 } : State).modTrunk p f := rfl
  rw [draw, State.modTrunk_modTrunk]
  exact State.modTrunk_congr _ _ _ _ (Trunk.leaveUp_eq _ _ _)

theorem execTrunkSignalLoss_of_up (free : s.hold = .none) (up : (s.trunk p).link = .up) :
    exec (.trunkSignalLoss p) s = .next ((s.modTrunk p fun x => { x with line := false, reception := none }).trunkLeaveUp p .down) := by
  simp only [exec, execTrunkSignalLoss, State.held_of_none free, Bool.false_eq_true, if_false]
  have effect : s.trunkSignalLoss p = (s.modTrunk p fun x => { x with line := false, reception := none }).trunkLeaveUp p .down := by
    simp only [State.trunkSignalLoss, up]
  refine congrArg Host.Outcome.next (.trans (State.Settled.withWaits (f := fun s => s.trunkSignalLoss p) ?_) effect)
  simp only [effect]
  exact State.settled_trunkLeaveUp _ nofun

theorem execTrunkSignalLoss_of_not_up (free : s.hold = .none) (outside : (s.trunk p).link ≠ .up) :
    exec (.trunkSignalLoss p) s = .next (s.modTrunk p fun x => { x with line := false, reception := none, link := .down }) := by
  simp only [exec, execTrunkSignalLoss, State.held_of_none free, Bool.false_eq_true, if_false]
  have effect : s.trunkSignalLoss p = s.modTrunk p fun x => { x with line := false, reception := none, link := .down } := by
    unfold State.trunkSignalLoss
    cases link : (s.trunk p).link with
    | up => exact absurd link outside
    | aligning | down => exact State.modTrunk_modTrunk ..
  refine congrArg Host.Outcome.next (.trans (State.Settled.withWaits (f := fun s => s.trunkSignalLoss p) ?_) effect)
  simp only [effect]
  refine State.settled_of_same fun q => ?_
  by_cases here : p = q
  · subst here
    rw [State.creditWait_of_not_up outside, State.creditWait_of_not_up (by rw [State.trunk_modTrunk_self]; nofun)]
  · refine State.creditWait_congr _ _ _ ?_ ?_ (by simp) <;> rw [State.trunk_modTrunk_of_ne (h := here)]

/-- The two commands that report a failing unit of a port in UP, with what each leaves in reception. -/
theorem exec_of_failing {c : Instr} {symbols : List LineSymbol} {f : Trunk → Trunk} (free : s.hold = .none) (up : (s.trunk p).link = .up)
    (fails : c = .trunkStraySymbol p symbols ∧ f = id ∨
      c = .trunkUnitEnd p symbols ∧ judgeTrunk ((s.trunk p).reception.getD [] ++ symbols) = .badCrc ∧ f = fun x => { x with reception := none }) :
    exec c s = .next (s.withWaits fun _ => (s.modTrunk p f).trunkCheckError p) := by
  rcases fails with ⟨rfl, rfl⟩ | ⟨rfl, judged, rfl⟩
  · rw [State.modTrunk_id s p id rfl]; exact execTrunkStraySymbol_of_up free up
  · rw [execTrunkUnitEnd_of_up free up judged, State.trunkReceive, State.closeTrunkReception]

end

/-- Settles O24: the two signal events, in UP and outside it. -/
theorem trunkSignalEvents : Obligations.TrunkSignalEvents := by
  refine ⟨fun s p free => ?_, fun s p free => ⟨fun outside => execTrunkSignalLoss_of_not_up free outside, fun up idle other => ⟨s.bytesOut p, ?_⟩⟩⟩
  · simp only [exec, execTrunkSignalPresent, State.held_of_none free, true_and]
  · rw [execTrunkSignalLoss_of_up free up, State.trunkLeaveUp_of_plain _ idle other]
    rfl

/-- Settles O28: a failing unit below 8, the eighth one, and a unit of bad form. -/
theorem trunkFailingUnits : Obligations.TrunkFailingUnits := by
  intro s p symbols free up dropped counted lost fails
  have failing : ∀ (f : Trunk → Trunk) (c : Instr), (∀ x, (f x).link = x.link) → (∀ x, (f x).credit = x.credit) →
      (∀ x, (f x).failureRun = x.failureRun) → (∀ x k, (f x).closedByCut k = x.closedByCut k) →
      exec c s = .next (s.withWaits fun _ => (s.modTrunk p f).trunkCheckError p) → fails (s.modTrunk p f) c := by
    intro f c link credit run closed effect
    have run' : ((s.modTrunk p f).trunk p).failureRun = (s.trunk p).failureRun := by rw [State.trunk_modTrunk_self, run]
    refine ⟨fun few => ?_, fun eighth idle other => ⟨s.bytesOut p, ?_⟩⟩
    · rw [effect, State.trunkCheckError_of_few (by rw [run']; exact few), State.modTrunk_modTrunk]
      refine congrArg Host.Outcome.next ((State.Settled.withWaits (f := fun _ => s.modTrunk p fun x => (f x).checkError) ?_).trans ?_)
      · exact State.settled_modTrunk (link _) (credit _)
      · exact (State.modTrunk_modTrunk ..).symm
    · rw [effect, State.trunkCheckError_of_eighth (by rw [run']; exact eighth), State.modTrunk_modTrunk]
      refine congrArg Host.Outcome.next ((State.Settled.withWaits
        (f := fun _ => (s.modTrunk p fun x => (f x).checkError).trunkLeaveUp p .aligning) (State.settled_trunkLeaveUp _ nofun)).trans ?_)
      rw [State.trunkLeaveUp_of_plain _ idle other]
      refine congrArg (State.logFault · _) ?_
      have draw : ({ s.modTrunk p f with draws := (s.modTrunk p f).draws + 1 } : State) = ({ s with draws := s.draws + 1 } : State).modTrunk p f := rfl
      dsimp only
      rw [draw, State.modTrunk_modTrunk]
      rfl
  refine ⟨?stray, fun judged => ?crc, fun judged => ?form⟩
  case stray =>
    have same : s.modTrunk p id = s := s.modTrunk_id p id rfl
    have := failing id (.trunkStraySymbol p symbols) (fun _ => rfl) (fun _ => rfl) (fun _ => rfl) (fun _ _ => rfl)
      (exec_of_failing free up (Or.inl ⟨rfl, rfl⟩))
    rwa [same] at this
  case crc =>
    exact failing _ _ (fun _ => rfl) (fun _ => rfl) (fun _ => rfl) (fun _ _ => rfl) (exec_of_failing free up (Or.inr ⟨rfl, judged, rfl⟩))
  case form =>
    rw [execTrunkUnitEnd_of_up free up judged]
    exact congrArg Host.Outcome.next (State.Settled.withWaits (f := fun _ => (s.closeTrunkReception p).trunkBadForm p)
      (State.settled_closeTrunkReception _ (fun _ => rfl) (fun _ => rfl)))

end Sys2Proof.Machine
end


section
/-! A record that leaves its frame queue: the end of its frame and its loss (R98, R108, R111, R132, R133). -/

namespace Sys2Proof.Machine

-- One after another, as in the tests: many proofs checked at once would each hold a thread.
set_option Elab.async false

section
variable {s : State} {g : GroupId} {p : TrunkId} {next : Link} {head : FrameRecord} {rest : List FrameRecord} {u : TxUnit}

/-! ### What the leaving brings about (R108, R111) -/

theorem Group.drains_iff {x : Group} : x.drains rest = true ↔ x.state = .draining ∧ x.rows = [] ∧ rest = [] := by
  simp [Group.drains, and_assoc]

theorem Group.withoutHead_of_drains {x : Group} (drains : x.drains rest = true) :
    x.withoutHead rest =
      { x with
        queue := rest, attempts := x.attempts + 1
        state := .stopped, cursor := none, lateRun := 0, lateLogged := false, templates := x.templates.switched } := if_pos drains

theorem Group.withoutHead_of_aborting {x : Group} (aborting : x.state = .aborting) :
    x.withoutHead rest = { x with queue := rest, attempts := x.attempts + 1, state := .stopped } := by
  have stays : ¬x.drains rest = true := fun drains => nomatch aborting.symm.trans (Group.drains_iff.mp drains).1
  exact (if_neg stays).trans (if_pos aborting)

theorem Group.withoutHead_of_going_on {x : Group} (stays : x.drains rest = false) (going : x.state ≠ .aborting) :
    x.withoutHead rest = { x with queue := rest, attempts := x.attempts + 1 } :=
  (if_neg (by simp [stays])).trans (if_neg going)

section
variable {v : State} {x : Group} (left : v.group g = { x with queue := rest, attempts := x.attempts + 1 })
include left

/-- Which of the three endings a leaving has, by the group that the record has left (R108, R111). -/
theorem State.afterLeaving_of_left :
    (x.drains rest = true ∧ v.afterLeaving g = v.completeDrain g) ∨
      (x.drains rest = false ∧ x.state = .aborting ∧ v.afterLeaving g = v.modGroup g fun x => { x with state := .stopped }) ∨
      (x.drains rest = false ∧ x.state ≠ .aborting ∧ v.afterLeaving g = v) := by
  have state : (v.group g).state = x.state := by rw [left]
  have empty : (v.group g).isEmpty = true ↔ x.rows = [] ∧ rest = [] := by rw [Group.isEmpty_iff, left]
  rcases State.afterLeaving_cases v g with ⟨draining, none, after⟩ | ⟨aborting, after⟩ | ⟨going, some, after⟩
  · exact Or.inl ⟨Group.drains_iff.mpr ⟨state ▸ draining, empty.mp none⟩, after⟩
  · refine Or.inr (Or.inl ⟨Bool.eq_false_iff.mpr fun drains => ?_, state ▸ aborting, after⟩)
    rw [Group.drains_iff, ← state, aborting] at drains
    exact nomatch drains.1
  · refine Or.inr (Or.inr ⟨Bool.eq_false_iff.mpr fun drains => ?_, state ▸ going, after⟩)
    obtain ⟨draining, none⟩ := Group.drains_iff.mp drains
    exact absurd (empty.mpr none) (by simp [some (state.trans draining)])

theorem State.afterLeaving_group_self : (v.afterLeaving g).group g = x.withoutHead rest := by
  rcases State.afterLeaving_of_left left with ⟨drains, after⟩ | ⟨_, aborting, after⟩ | ⟨stays, going, after⟩
  · rw [after, State.completeDrain_group_self, left, Group.withoutHead_of_drains drains]
  · rw [after, State.group_modGroup_self, left, Group.withoutHead_of_aborting aborting]
  · rw [after, left, Group.withoutHead_of_going_on stays going]

theorem State.afterLeaving_group_of_ne {g' : GroupId} (h : g' ≠ g) : (v.afterLeaving g).group g' = v.group g' := by
  rcases State.afterLeaving_of_left left with ⟨_, after⟩ | ⟨_, _, after⟩ | ⟨_, _, after⟩
  · rw [after, State.completeDrain_group_of_ne h]
  · rw [after, State.group_modGroup_of_ne (h := h.symm)]
  · rw [after]

theorem State.afterLeaving_stream (i : StreamId) :
    (v.afterLeaving g).stream i = if x.drains rest = true ∧ v.switchUnbinds g i = true then (v.stream i).unbound else v.stream i := by
  rcases State.afterLeaving_of_left left with ⟨drains, after⟩ | ⟨stays, _, after⟩ | ⟨stays, _, after⟩
  · rw [after, State.completeDrain_stream]
    exact if_congr (by simp [drains]) rfl rfl
  · rw [after, if_neg (by simp [stays])]; rfl
  · rw [after, if_neg (by simp [stays])]

end

/-- Whether the switch unbinds a stream depends on its binding and on the group's banks alone. -/
theorem State.switchUnbinds_congr {t : State} {i : StreamId} (templates : (t.group g).templates = (s.group g).templates)
    (bound : (t.stream i).group = (s.stream i).group) : t.switchUnbinds g i = s.switchUnbinds g i := by
  rw [Bool.eq_iff_iff, State.switchUnbinds_iff, State.switchUnbinds_iff, templates, bound]

theorem State.removeHead_stream (i : StreamId) :
    (s.removeHead g head rest).stream i =
      { s.stream i with refs := (s.stream i).refs - (head.entries.map Entry.stream).count i } := by
  rw [State.removeHead, State.dropRefs_stream]
  rfl

theorem State.removeHead_freeCells : (s.removeHead g head rest).freeCells = s.freeCells ++ realCells head.entries := by
  simp [State.removeHead, State.freeCellList]

/-! ### The loss of a frame (R133) -/

theorem State.loseFrame_left :
    (((s.removeHead p head rest).countGroup p .framesLostOnLink 1).handAttempt p).group p =
      { ({ s.group p with counters := raise (s.group p).counters GroupCounter.framesLostOnLink.index 1 } : Group) with
        queue := rest, attempts := (s.group p).attempts + 1 } := by
  rw [State.handAttempt, State.group_modGroup_self, State.countGroup, State.group_modGroup_self, State.removeHead_group_self]

theorem State.loseFrame_group_self :
    (s.loseFrame p head rest).group p =
      ({ s.group p with counters := raise (s.group p).counters GroupCounter.framesLostOnLink.index 1 } : Group).withoutHead rest :=
  State.afterLeaving_group_self State.loseFrame_left

theorem State.loseFrame_stream (i : StreamId) :
    (s.loseFrame p head rest).stream i =
      { (if (s.group p).drains rest = true ∧ s.switchUnbinds p i = true then (s.stream i).unbound else s.stream i) with
        refs := (s.stream i).refs - (head.entries.map Entry.stream).count i } := by
  have before : (((s.removeHead p head rest).countGroup p .framesLostOnLink 1).handAttempt p).stream i =
      { s.stream i with refs := (s.stream i).refs - (head.entries.map Entry.stream).count i } := State.removeHead_stream i
  rw [State.loseFrame, State.afterLeaving_stream State.loseFrame_left,
    State.switchUnbinds_congr (s := s) (by rw [State.loseFrame_left]) (by rw [before]), before]
  have drains : ({ s.group p with counters := raise (s.group p).counters GroupCounter.framesLostOnLink.index 1 } : Group).drains rest =
    (s.group p).drains rest := rfl
  rw [drains]
  split <;> rfl

theorem State.loseFrame_freeCells : (s.loseFrame p head rest).freeCells = s.freeCells ++ realCells head.entries := by
  rw [← State.removeHead_freeCells (g := p) (rest := rest)]
  simp [State.loseFrame, State.handAttempt]

theorem State.logLoss_log (n : Instant) :
    (s.logLoss p n).log = (s.log.take s.time (portLogging .trunkDown (.trunk p))).take s.time (frameLostLogging p n) ∨
      (s.logLoss p n).log = (s.log.take s.time (frameLostLogging p n)).take s.time (portLogging .trunkDown (.trunk p)) := by
  unfold State.logLoss
  dsimp only
  split
  · exact Or.inl rfl
  · exact Or.inr rfl

/-- What the leaving of UP logs, with a frame in transmission or without (R121, R133). -/
theorem State.leavingLogged_leftUp : s.LeavingLogged p (s.leftUp p next).log := by
  refine ⟨fun idle => by rw [State.leftUp_of_idle idle]; rfl, fun head rest queue sending => ?_⟩
  rw [State.leftUp_of_sending (Group.sendingHead_eq_some.mpr ⟨queue, sending⟩)]
  have log : ((s.cutOff p next).loseFrame p head rest).log = s.log := by rw [(State.loseFrame_frame ..).2.2.2.2.2.2.2.2.2.2.2.2.1]; rfl
  have time : ((s.cutOff p next).loseFrame p head rest).time = s.time := by rw [(State.loseFrame_frame ..).2.2.2.1]; rfl
  have order := State.logLoss_log (s := (s.cutOff p next).loseFrame p head rest) (p := p) head.instant
  rwa [log, time] at order

/-- A command that takes the port out of UP comes to the change on its line or of its counters, and the leaving (R118). -/
theorem exec_of_losesUp {c : Instr} (free : s.hold = .none) (loses : s.LosesUp p c next) :
    (next = .down ∨ next = .aligning) ∧
      ∃ r, exec c s = .next ((s.modTrunk p fun x => x.losing next r).trunkLeaveUp p next) := by
  obtain ⟨up, ⟨rfl, rfl⟩ | ⟨seven, rfl, symbols, failing⟩⟩ := loses
  · exact ⟨Or.inl rfl, none, execTrunkSignalLoss_of_up free up⟩
  · refine ⟨Or.inr rfl, ?_⟩
    have leaves : ∀ f : Trunk → Trunk, (f (s.trunk p)).failureRun = (s.trunk p).failureRun →
        s.withWaits (fun _ => (s.modTrunk p f).trunkCheckError p) = (s.modTrunk p fun x => (f x).checkError).trunkLeaveUp p .aligning := by
      intro f run
      have effect := State.trunkCheckError_of_eighth (s := s.modTrunk p f) (p := p) (by rw [State.trunk_modTrunk_self, run]; omega)
      rw [State.modTrunk_modTrunk] at effect
      rw [effect]
      exact State.Settled.withWaits (f := fun _ => _) (State.settled_trunkLeaveUp _ nofun)
    rcases failing with stray | ⟨ends, judged⟩
    · refine ⟨(s.trunk p).reception, ?_⟩
      rw [exec_of_failing free up (Or.inl ⟨stray, rfl⟩), leaves id rfl]
      exact congrArg (fun t : State => Host.Outcome.next (t.trunkLeaveUp p .aligning)) (s.modTrunk_congr p _ _ rfl)
    · refine ⟨none, ?_⟩
      rw [exec_of_failing free up (Or.inr ⟨ends, judged, rfl⟩), leaves (fun x => { x with reception := none }) rfl]
      exact congrArg (fun t : State => Host.Outcome.next (t.trunkLeaveUp p .aligning)) (s.modTrunk_congr p _ _ rfl)

end

/-- Settles O26: the port leaves UP, the record leaves its queue, and the group ends as the leaving of a record has it. -/
theorem frameInTransmissionIsLost : Obligations.FrameInTransmissionIsLost := by
  intro s p c next head rest free loses queue sending other
  obtain ⟨away, r, effect⟩ := exec_of_losesUp free loses
  have found : ((s.modTrunk p fun x => x.losing next r).group p).sendingHead = some (head, rest) :=
    Group.sendingHead_eq_some.mpr ⟨queue, sending⟩
  refine ⟨_, effect, ?_⟩
  rw [State.trunkLeaveUp_of_not_pending (s := s.modTrunk p fun x => x.losing next r) other]
  set t := (s.modTrunk p fun x => x.losing next r).leftUp p next with leaves
  have lost := State.leftUp_of_sending (next := next) found
  rw [← leaves] at lost
  have trunk : t.trunk p = _ := State.leftUp_trunk p
  refine ⟨?_, fun g h => ?_, fun i => ?_, ⟨s.bytesOut p, ?_⟩, fun q h => ?_, ?_, ?_⟩
  · rw [lost]
    simp only [State.logLoss_frame]
    exact State.loseFrame_group_self
  · exact State.leftUp_group_of_ne h
  · rw [lost]
    simp only [State.logLoss_frame]
    exact State.loseFrame_stream i
  · rw [if_pos rfl, State.trunk_modTrunk_self, Trunk.leaveUp_eq] at trunk
    rw [trunk]
    rcases away with rfl | rfl <;> rfl
  · have other := State.leftUp_trunk (s := s.modTrunk p fun x => x.losing next r) (p := p) (next := next) q
    rw [if_neg (Ne.symm h), State.trunk_modTrunk_of_ne (h := Ne.symm h)] at other
    exact other
  · exact State.leavingLogged_leftUp (s := s.modTrunk p fun x => x.losing next r)
  · have cells : t.freeCells = s.freeCells ++ realCells head.entries := by
      rw [lost]; simp only [State.logLoss_frame]; exact State.loseFrame_freeCells
    rw [← cells]
    apply State.ext_fields <;> simp [lost, State.cutOff]

end Sys2Proof.Machine
end


section
/-! The end of a merged frame (R30, R132). -/

namespace Sys2Proof.Machine

-- One after another, as in the tests: many proofs checked at once would each hold a thread.
set_option Elab.async false

/-- The hold store of an entry's stream once the entry's frame has ended (R30). -/
def State.holdAfter (s : State) (g : GroupId) (e : Entry) : Option (List Word) :=
  match e.content with
  | .real c =>
    if (s.stream e.stream).group = some g ∧ (s.group g).state.isActive then some (s.payload c (s.stream e.stream).length)
    else (s.stream e.stream).holdStore
  | .fill _ => (s.stream e.stream).holdStore

/-- The REAL entries of a frame update their hold stores (R30). -/
def State.updateHolds (s : State) (g : GroupId) (entries : List Entry) : State := entries.foldl (fun u e => u.updateHold g e) s

/-- The end of a frame up to the arbiter's choice (R132). -/
def State.frameEnded (s : State) (p : TrunkId) (head : FrameRecord) (rest : List FrameRecord) : State :=
  ((((s.updateHolds p head.entries).removeHead p head rest).countTrunk p .framesSent 1).handAttempt p).afterLeaving p
    |>.modTrunk p Trunk.endUnit

section
variable {s : State} {g : GroupId} {p : TrunkId} {head : FrameRecord} {rest : List FrameRecord} {u : TxUnit} {e : Entry}

/-! ### Hold stores -/

theorem State.updateHold_stream (i : StreamId) :
    (s.updateHold g e).stream i = if e.stream = i then { s.stream i with holdStore := s.holdAfter g e } else s.stream i := by
  have same : ∀ x : Stream, x = s.stream e.stream → { x with holdStore := (s.stream e.stream).holdStore } = x := by
    rintro _ rfl; rfl
  unfold State.updateHold State.holdAfter
  cases e.content with
  | fill _ =>
    dsimp only
    split
    · next here => subst here; rfl
    · rfl
  | real c =>
    dsimp only
    split
    · rw [State.stream_modStream]; split
      · next here => subst here; rfl
      · rfl
    · split
      · next here => subst here; rfl
      · rfl

theorem State.holdAfter_congr {t : State} (groups : t.groups = s.groups) (cells : t.cells = s.cells)
    (stream : t.stream e.stream = s.stream e.stream) : t.holdAfter g e = s.holdAfter g e := by
  have group : t.group g = s.group g := congrArg (·.get g) groups
  have cell : ∀ c, t.cell c = s.cell c := fun c => congrArg (·.get c) cells
  unfold State.holdAfter
  cases e.content with
  | fill _ => rw [stream]
  | real c => simp only [State.payload, group, cell, stream]

theorem State.updateHolds_eq (entries : List Entry) :
    s.updateHolds g entries = { s with streams := (s.updateHolds g entries).streams } := by
  unfold State.updateHolds
  induction entries generalizing s with
  | nil => rfl
  | cons e es ih =>
    rw [List.foldl_cons, ih]
    apply State.ext_fields <;> simp

theorem State.updateHolds_stream_of_not_named {entries : List Entry} {i : StreamId} (h : ∀ e ∈ entries, e.stream ≠ i) :
    (s.updateHolds g entries).stream i = s.stream i := by
  unfold State.updateHolds
  induction entries generalizing s with
  | nil => rfl
  | cons e es ih =>
    obtain ⟨first, others⟩ := List.forall_mem_cons.mp h
    rw [List.foldl_cons, ih others, State.updateHold_stream, if_neg first]

/-- Each stream that an entry names, among entries that name each stream once. -/
theorem State.updateHolds_stream {entries : List Entry} (once : (entries.map Entry.stream).Nodup) (named : e ∈ entries) :
    (s.updateHolds g entries).stream e.stream = { s.stream e.stream with holdStore := s.holdAfter g e } := by
  unfold State.updateHolds
  induction entries generalizing s with
  | nil => exact absurd named List.not_mem_nil
  | cons x es ih =>
    obtain ⟨fresh, once'⟩ := List.nodup_cons.mp once
    rw [List.foldl_cons]
    rcases List.mem_cons.mp named with rfl | later
    · have others : ∀ y ∈ es, y.stream ≠ e.stream := fun y mem same => fresh (same ▸ List.mem_map_of_mem mem)
      exact (State.updateHolds_stream_of_not_named others).trans (by rw [State.updateHold_stream, if_pos rfl])
    · have apart : x.stream ≠ e.stream := fun same => fresh (same ▸ List.mem_map_of_mem later)
      have untouched : (s.updateHold g x).stream e.stream = s.stream e.stream := by rw [State.updateHold_stream, if_neg apart]
      rw [ih once' later, untouched, State.holdAfter_congr (s := s) (by simp) (by simp) untouched]

theorem State.updateHolds_bound (entries : List Entry) (i : StreamId) :
    ((s.updateHolds g entries).stream i).group = (s.stream i).group := by
  unfold State.updateHolds
  induction entries generalizing s with
  | nil => rfl
  | cons e es ih =>
    rw [List.foldl_cons, ih, State.updateHold_stream]
    split <;> rfl

/-! ### The record's leaving -/

theorem State.updateHolds_group (entries : List Entry) (g' : GroupId) : (s.updateHolds g entries).group g' = s.group g' := by
  rw [State.updateHolds_eq]; rfl

theorem State.updateHolds_trunk (entries : List Entry) (q : TrunkId) : (s.updateHolds g entries).trunk q = s.trunk q := by
  rw [State.updateHolds_eq]; rfl

theorem State.updateHolds_freeCells (entries : List Entry) : (s.updateHolds g entries).freeCells = s.freeCells := by
  rw [State.updateHolds_eq]

theorem State.frameEnded_left :
    ((((s.updateHolds p head.entries).removeHead p head rest).countTrunk p .framesSent 1).handAttempt p).group p =
      { s.group p with queue := rest, attempts := (s.group p).attempts + 1 } := by
  have counted : (((s.updateHolds p head.entries).removeHead p head rest).countTrunk p .framesSent 1).group p =
      { s.group p with queue := rest } :=
    (State.removeHead_group_self ..).trans (by rw [State.updateHolds_group])
  rw [State.handAttempt, State.group_modGroup_self, counted]

theorem State.frameEnded_group_self : (s.frameEnded p head rest).group p = (s.group p).withoutHead rest :=
  State.afterLeaving_group_self State.frameEnded_left

theorem State.frameEnded_group_of_ne (h : g ≠ p) : (s.frameEnded p head rest).group g = s.group g := by
  have kept : (((s.updateHolds p head.entries).removeHead p head rest).handAttempt p).group g = s.group g := by
    rw [State.handAttempt, State.group_modGroup_of_ne (h := h.symm), State.removeHead_group_of_ne _ h, State.updateHolds_group]
  exact (State.afterLeaving_group_of_ne State.frameEnded_left h).trans kept

theorem State.frameEnded_stream (i : StreamId) :
    (s.frameEnded p head rest).stream i =
      let x : Stream := { (s.updateHolds p head.entries).stream i with
        refs := ((s.updateHolds p head.entries).stream i).refs - (head.entries.map Entry.stream).count i }
      if (s.group p).drains rest = true ∧ s.switchUnbinds p i = true then x.unbound else x := by
  have before : ((((s.updateHolds p head.entries).removeHead p head rest).countTrunk p .framesSent 1).handAttempt p).stream i =
      { (s.updateHolds p head.entries).stream i with
        refs := ((s.updateHolds p head.entries).stream i).refs - (head.entries.map Entry.stream).count i } := State.removeHead_stream i
  refine (State.afterLeaving_stream State.frameEnded_left i).trans ?_
  rw [State.switchUnbinds_congr (s := s) (by rw [State.frameEnded_left]) (by rw [before]; exact State.updateHolds_bound ..), before]

theorem State.frameEnded_stream_of_not_named {i : StreamId} (h : ∀ e ∈ head.entries, e.stream ≠ i) :
    (s.frameEnded p head rest).stream i =
      if (s.group p).drains rest = true ∧ s.switchUnbinds p i = true then (s.stream i).unbound else s.stream i := by
  have none : (head.entries.map Entry.stream).count i = 0 :=
    List.count_eq_zero.mpr fun mem => let ⟨e, here, same⟩ := List.mem_map.mp mem; h e here same
  rw [State.frameEnded_stream, State.updateHolds_stream_of_not_named h, none]
  rfl

theorem State.frameEnded_stream_of_named (once : (head.entries.map Entry.stream).Nodup) (named : e ∈ head.entries) :
    (s.frameEnded p head rest).stream e.stream =
      let x : Stream := { s.stream e.stream with refs := (s.stream e.stream).refs - 1, holdStore := s.holdAfter p e }
      if (s.group p).drains rest = true ∧ s.switchUnbinds p e.stream = true then x.unbound else x := by
  rw [State.frameEnded_stream, State.updateHolds_stream once named, List.count_eq_one_of_mem once (List.mem_map_of_mem named)]

theorem State.frameEnded_trunk_self (sends : (s.trunk p).tx = some u) :
    (s.frameEnded p head rest).trunk p = { s.trunk p with
      tx := none, lastClosed := u.wholeOnLine, counters := raise (s.trunk p).counters TrunkCounter.framesSent.index 1 } := by
  have counted : ((((s.updateHolds p head.entries).removeHead p head rest).countTrunk p .framesSent 1).handAttempt p).trunk p =
      { s.trunk p with counters := raise (s.trunk p).counters TrunkCounter.framesSent.index 1 } := by
    simp [State.countTrunk, State.updateHolds_trunk]
  rw [State.frameEnded, State.trunk_modTrunk_self]
  simp only [State.afterLeaving_frame, counted]
  exact Trunk.endUnit_of_sending sends

theorem State.frameEnded_trunk_of_ne {q : TrunkId} (h : q ≠ p) : (s.frameEnded p head rest).trunk q = s.trunk q := by
  simp [State.frameEnded, State.countTrunk, State.trunk_modTrunk_of_ne (h := h.symm), State.updateHolds_trunk]

theorem State.frameEnded_freeCells : (s.frameEnded p head rest).freeCells = s.freeCells ++ realCells head.entries := by
  have removed : ((s.updateHolds p head.entries).removeHead p head rest).freeCells = s.freeCells ++ realCells head.entries := by
    rw [State.removeHead_freeCells, State.updateHolds_freeCells]
  rw [← removed]
  simp [State.frameEnded, State.handAttempt, State.countTrunk]

theorem State.frameEnded_eq :
    s.frameEnded p head rest =
      { s with
        groups := (s.frameEnded p head rest).groups, trunks := (s.frameEnded p head rest).trunks
        streams := (s.frameEnded p head rest).streams, freeCells := (s.frameEnded p head rest).freeCells } := by
  have held := State.updateHolds_eq (s := s) (g := p) head.entries
  apply State.ext_fields <;> simp only [State.frameEnded] <;> rw [held] <;> simp

theorem exec_of_frameEnd (free : s.hold = .none) (sends : (s.trunk p).tx = some u) (frame : u.kind = .frame)
    (queue : (s.group p).queue = head :: rest) (sending : head.inTransmission = true) :
    exec (.frameTransmissionEnd p) s = .next (s.withWaits fun _ => (s.frameEnded p head rest).choose p) :=
  execFrameTransmissionEnd_of_frame free (by rw [Trunk.sending_of_tx sends, frame]) (Group.sendingHead_eq_some.mpr ⟨queue, sending⟩)

end

/-- Settles O30: the record leaves and the group goes on. -/
theorem frameEndInAnActiveGroup : Obligations.FrameEndInAnActiveGroup := by
  intro s p u head rest free sends frame queue sending active once
  have stays : (s.group p).drains rest = false := by
    refine Bool.eq_false_iff.mpr fun drains => ?_
    obtain ⟨draining, noRows, noRest⟩ := Group.drains_iff.mp drains
    rcases active with running | ⟨_, rows | more⟩
    · rw [draining] at running; exact nomatch running
    · exact rows noRows
    · exact more noRest
  have isActive : (s.group p).state.isActive = true := by
    rcases active with running | ⟨draining, _⟩
    · rw [running]; rfl
    · rw [draining]; rfl
  have going : (s.group p).state ≠ .aborting := by
    rcases active with running | ⟨draining, _⟩
    · rw [running]; nofun
    · rw [draining]; nofun
  refine ⟨s.frameEnded p head rest, exec_of_frameEnd free sends frame queue sending, ?_, fun g => State.frameEnded_group_of_ne,
    State.frameEnded_trunk_self sends, fun q => State.frameEnded_trunk_of_ne, State.frameEnded_freeCells, fun e named => ?_,
    fun i others => ?_, State.frameEnded_eq⟩
  · rw [State.frameEnded_group_self, Group.withoutHead_of_going_on stays going]
  · rw [State.frameEnded_stream_of_named once named]
    simp only [stays, Bool.false_eq_true, false_and, if_false]
    cases content : e.content with
    | real c => simp only [State.holdAfter, content, isActive, and_true]; rfl
    | fill _ => simp only [State.holdAfter, content]
  · rw [State.frameEnded_stream_of_not_named others, if_neg (by simp [stays])]

/-- Settles O31: the last record leaves, and the drain completes or the aborting condition ends. -/
theorem frameEndCompletesADrainOrAnAbort : Obligations.FrameEndCompletesADrainOrAnAbort := by
  intro s p u head free sends frame queue sending rows once ending after
  have drains : (s.group p).drains [] = true ↔ (s.group p).state = .draining := by simp [Group.drains_iff, rows]
  have isActive : (s.group p).state.isActive = true ↔ (s.group p).state = .draining := by
    rcases ending with state | state <;> simp [state, GroupState.isActive, GroupState.isStopped]
  refine ⟨s.frameEnded p head [], exec_of_frameEnd free sends frame queue sending, fun draining => ?_, fun aborting => ?_,
    fun g => State.frameEnded_group_of_ne, fun e named => ?_, fun i others => ?_, State.frameEnded_trunk_self sends,
    fun q => State.frameEnded_trunk_of_ne, ?_⟩
  · rw [State.frameEnded_group_self, Group.withoutHead_of_drains (drains.mpr draining)]
  · rw [State.frameEnded_group_self, Group.withoutHead_of_aborting aborting]
  · rw [State.frameEnded_stream_of_named once named]
    simp only [drains]
    cases content : e.content with
    | real c => simp only [State.holdAfter, content, isActive, and_comm]; rfl
    | fill _ => simp only [State.holdAfter, content]; rfl
  · rw [State.frameEnded_stream_of_not_named others]
    simp only [drains]
    rfl
  · rw [← State.frameEnded_freeCells (p := p) (rest := [])]
    exact State.frameEnded_eq

end Sys2Proof.Machine
end


section
/-! The soft reset at its two events (R154, R155). -/

namespace Sys2Proof.Machine

-- One after another, as in the tests: many proofs checked at once would each hold a thread.
set_option Elab.async false

/-- Stream entry `i` after a soft reset (R19, R52, R155). -/
def State.streamAtReset (s : State) (i : StreamId) : Stream := (s.takeSwitches.stream i).atSoftReset

/-- Two states that a soft reset takes to the same values. -/
structure State.SameAtReset (s t : State) : Prop where
  frame : t.pending = s.pending ∧ t.hold = s.hold ∧ t.resetNLow = s.resetNLow ∧ t.time = s.time ∧ t.alertMask = s.alertMask ∧
    t.softCount = s.softCount ∧ t.cells = s.cells
  node : ∀ q, (t.node q).line = (s.node q).line
  trunk : ∀ q, (t.trunk q).line = (s.trunk q).line ∧ (t.trunk q).markInterval = (s.trunk q).markInterval ∧
    (t.trunk q).starveLimit = (s.trunk q).starveLimit
  group : ∀ g, (t.group g).depth = (s.group g).depth ∧ (t.group g).holdTime = (s.group g).holdTime ∧ (t.group g).early = (s.group g).early ∧
    (t.group g).empty = (s.group g).empty ∧ (t.group g).templates.switched = (s.group g).templates.switched
  stream : ∀ i, t.streamAtReset i = s.streamAtReset i

section
variable {s t u : State} {p : TrunkId} {next : Link} {i : StreamId}

/-! ### The values of a soft reset -/

theorem NodePort.atReset_lookAtLine (x : NodePort) :
    x.atReset.lookAtLine =
      if x.line then { NodePort.initial with line := true, present := true, link := .aligning } else NodePort.initial := by
  cases line : x.line <;> simp [NodePort.atReset, NodePort.lookAtLine, NodePort.initial, line]

theorem Trunk.atSoftReset_lookAtLine (x : Trunk) (k : Nat) :
    (x.atSoftReset k).lookAtLine = { Trunk.initial with
      line := x.line, link := if x.line then .aligning else .down, markInterval := x.markInterval, starveLimit := x.starveLimit
      lastClosed := x.closedByCut k } := by
  rw [Trunk.atSoftReset_eq]
  cases line : x.line <;> simp [Trunk.lookAtLine, Trunk.initial]

theorem State.not_switchUnbinds_of_unbound (unbound : (s.stream i).group = none) (g : GroupId) : s.switchUnbinds g i = false :=
  Bool.eq_false_iff.mpr fun unbinds => nomatch unbound.symm.trans (State.switchUnbinds_iff.mp unbinds).2.1

theorem State.not_switchUnbinds_of_other {g g' : GroupId} (bound : (s.stream i).group = some g) (h : g' ≠ g) : s.switchUnbinds g' i = false :=
  Bool.eq_false_iff.mpr fun unbinds => h (Option.some.inj ((State.switchUnbinds_iff.mp unbinds).2.1.symm.trans bound))

/-- Only the switch of its own group can unbind a stream. -/
theorem State.streamAtReset_eq_of_bound {g : GroupId} (bound : (s.stream i).group = some g) :
    s.streamAtReset i = (if s.switchUnbinds g i then (s.stream i).unbind else s.stream i).atSoftReset := by
  rw [State.streamAtReset, State.takeSwitches_stream]
  rcases GroupId.eq_zero_or_one g with rfl | rfl
  · rw [State.not_switchUnbinds_of_other bound (by decide : (1 : GroupId) ≠ 0)]; simp
  · rw [State.not_switchUnbinds_of_other bound (by decide : (0 : GroupId) ≠ 1)]; simp

theorem State.streamAtReset_eq_of_unbound (unbound : (s.stream i).group = none) : s.streamAtReset i = (s.stream i).atSoftReset := by
  rw [State.streamAtReset, State.takeSwitches_stream, State.not_switchUnbinds_of_unbound unbound, State.not_switchUnbinds_of_unbound unbound]
  rfl

theorem State.atSoftReset_softReset (s : State) : s.AtSoftReset s.softReset := by
  refine ⟨?_, ?_, ?_, ?_, ?_, rfl, ?_, rfl, rfl, rfl, rfl, ?_, ?_, ?_, fun q => ?node, fun q => ?trunk, fun g => ?group, fun i => ?stream⟩
  case node => rw [State.softReset_node, NodePort.atReset_lookAtLine, State.reset_node]
  case trunk => rw [State.softReset_trunk, Trunk.atSoftReset_lookAtLine, State.reset_trunk]
  case group => rw [State.softReset_group, State.reset_group]; rfl
  case stream =>
    rw [State.softReset_stream]
    change s.streamAtReset i = _
    cases bound : (s.stream i).group with
    | none => rw [State.streamAtReset_eq_of_unbound bound, Stream.atSoftReset, bound]; rfl
    | some g =>
      rw [State.streamAtReset_eq_of_bound bound]
      cases unbinds : s.switchUnbinds g i with
      | true => simp [unbinds, Stream.unbind, Stream.atSoftReset, Option.filter_some]
      | false => simp [unbinds, Stream.atSoftReset, bound, Option.filter_some]
  all_goals simp [State.softReset, State.lookAtLines, State.reset]

/-- A soft reset of either state is one of the other. -/
theorem State.SameAtReset.atSoftReset (same : s.SameAtReset t) : s.AtSoftReset t.softReset := by
  obtain ⟨pending, hold, resetN, time, mask, count, cells⟩ := same.frame
  obtain ⟨pending', hold', resetN', time', mask', cause, count', soft, lastNode, lastTrunk, intake, rows, freeCells, cells', nodes, trunks,
    groups, _⟩ := t.atSoftReset_softReset
  obtain ⟨_, _, _, _, _, _, _, _, _, _, _, _, _, _, _, _, _, streams⟩ := s.atSoftReset_softReset
  refine ⟨pending'.trans pending, hold'.trans hold, resetN'.trans resetN, time'.trans time, mask'.trans mask, cause, by rw [count', count], soft,
    lastNode, lastTrunk, intake, rows, freeCells, cells'.trans cells, fun q => ?_, fun q => ?_, fun g => ?_, fun i => ?_⟩
  · rw [nodes, same.node]
  · obtain ⟨line, interval, limit⟩ := same.trunk q
    rw [trunks, line, interval, limit]
  · obtain ⟨depth, holdTime, early, empty, templates⟩ := same.group g
    rw [groups, depth, holdTime, early, empty, templates]
  · have stream : t.softReset.stream i = s.softReset.stream i := by
      rw [State.softReset_stream, State.softReset_stream]
      exact same.stream i
    rw [stream, streams]

theorem State.SameAtReset.trans (h : s.SameAtReset t) (k : t.SameAtReset u) : s.SameAtReset u where
  frame := by
    obtain ⟨pending, hold, resetN, time, mask, count, cells⟩ := h.frame
    obtain ⟨pending', hold', resetN', time', mask', count', cells'⟩ := k.frame
    exact ⟨pending'.trans pending, hold'.trans hold, resetN'.trans resetN, time'.trans time, mask'.trans mask, count'.trans count,
      cells'.trans cells⟩
  node q := (k.node q).trans (h.node q)
  trunk q := by
    obtain ⟨line, interval, limit⟩ := h.trunk q
    obtain ⟨line', interval', limit'⟩ := k.trunk q
    exact ⟨line'.trans line, interval'.trans interval, limit'.trans limit⟩
  group g := by
    obtain ⟨depth, holdTime, early, empty, templates⟩ := h.group g
    obtain ⟨depth', holdTime', early', empty', templates'⟩ := k.group g
    exact ⟨depth'.trans depth, holdTime'.trans holdTime, early'.trans early, empty'.trans empty, templates'.trans templates⟩
  stream i := (k.stream i).trans (h.stream i)

theorem State.streamAtReset_congr (groups : ∀ g, (t.group g).templates = (s.group g).templates) (stream : t.stream i = s.stream i) :
    t.streamAtReset i = s.streamAtReset i := by
  have unbinds : ∀ g, t.switchUnbinds g i = s.switchUnbinds g i := fun g => State.switchUnbinds_congr (groups g) (by rw [stream])
  rw [State.streamAtReset, State.streamAtReset, State.takeSwitches_stream, State.takeSwitches_stream, unbinds, unbinds, stream]

/-- Two changes of a trunk port that agree on its line and its parameters. -/
theorem State.sameAtReset_modTrunk (s : State) (p : TrunkId) {f f' : Trunk → Trunk} (line : (f' (s.trunk p)).line = (f (s.trunk p)).line)
    (interval : (f' (s.trunk p)).markInterval = (f (s.trunk p)).markInterval)
    (limit : (f' (s.trunk p)).starveLimit = (f (s.trunk p)).starveLimit) : (s.modTrunk p f).SameAtReset (s.modTrunk p f') where
  frame := ⟨rfl, rfl, rfl, rfl, rfl, rfl, rfl⟩
  node _ := rfl
  trunk q := by
    rw [State.trunk_modTrunk, State.trunk_modTrunk]
    split
    · next here => subst here; exact ⟨line, interval, limit⟩
    · exact ⟨rfl, rfl, rfl⟩
  group _ := ⟨rfl, rfl, rfl, rfl, rfl⟩
  stream _ := State.streamAtReset_congr (fun _ => rfl) rfl

/-! ### A leaving of UP before the reset -/

theorem Trunk.leaveUp_kept (x : Trunk) (k : Nat) :
    (x.leaveUp k next).line = x.line ∧ (x.leaveUp k next).markInterval = x.markInterval ∧ (x.leaveUp k next).starveLimit = x.starveLimit := by
  rw [Trunk.leaveUp_eq]
  exact ⟨rfl, rfl, rfl⟩

theorem Group.withoutHead_kept (x : Group) (rest : List FrameRecord) :
    (x.withoutHead rest).depth = x.depth ∧ (x.withoutHead rest).holdTime = x.holdTime ∧ (x.withoutHead rest).early = x.early ∧
      (x.withoutHead rest).empty = x.empty ∧
      (x.withoutHead rest).templates = if x.drains rest then x.templates.switched else x.templates := by
  unfold Group.withoutHead
  cases x.drains rest <;> by_cases aborting : x.state = .aborting <;> simp [aborting]

theorem Templates.switched_switched (t : Templates) : t.switched.switched = t.switched :=
  Templates.switched_of_not_armed t.switched_armed

theorem State.leftUp_frame :
    (s.leftUp p next).pending = s.pending ∧ (s.leftUp p next).hold = s.hold ∧ (s.leftUp p next).resetNLow = s.resetNLow ∧
      (s.leftUp p next).time = s.time ∧ (s.leftUp p next).alertMask = s.alertMask ∧ (s.leftUp p next).softCount = s.softCount ∧
      (s.leftUp p next).cells = s.cells ∧ (s.leftUp p next).nodes = s.nodes := by
  rcases Group.sendingHead_cases (s.group p) with idle | ⟨head, rest, found⟩
  · rw [State.leftUp_of_idle idle]; exact ⟨rfl, rfl, rfl, rfl, rfl, rfl, rfl, rfl⟩
  · rw [State.leftUp_of_sending found]; simp [State.cutOff]

/-- What the leaving makes of the groups and streams, in the one case where it touches them: a frame is lost. -/
theorem State.leftUp_of_lost {head : FrameRecord} {rest : List FrameRecord} (found : (s.group p).sendingHead = some (head, rest)) :
    (s.leftUp p next).group p =
        ({ s.group p with counters := raise (s.group p).counters GroupCounter.framesLostOnLink.index 1 } : Group).withoutHead rest ∧
      ∀ i, (s.leftUp p next).stream i =
        { (if (s.group p).drains rest = true ∧ s.switchUnbinds p i = true then (s.stream i).unbound else s.stream i) with
          refs := (s.stream i).refs - (head.entries.map Entry.stream).count i } := by
  rw [State.leftUp_of_sending found]
  simp only [State.logLoss_frame]
  exact ⟨State.loseFrame_group_self (s := s.cutOff p next), State.loseFrame_stream (s := s.cutOff p next)⟩

theorem State.leftUp_group_kept (g : GroupId) :
    ((s.leftUp p next).group g).depth = (s.group g).depth ∧ ((s.leftUp p next).group g).holdTime = (s.group g).holdTime ∧
      ((s.leftUp p next).group g).early = (s.group g).early ∧ ((s.leftUp p next).group g).empty = (s.group g).empty ∧
      ((s.leftUp p next).group g).templates.switched = (s.group g).templates.switched := by
  by_cases here : g = p
  · subst here
    rcases Group.sendingHead_cases (s.group g) with idle | ⟨head, rest, found⟩
    · rw [State.leftUp_of_idle idle]; exact ⟨rfl, rfl, rfl, rfl, rfl⟩
    · rw [(State.leftUp_of_lost found).1]
      obtain ⟨depth, holdTime, early, empty, templates⟩ := Group.withoutHead_kept
        ({ s.group g with counters := raise (s.group g).counters GroupCounter.framesLostOnLink.index 1 } : Group) rest
      refine ⟨depth, holdTime, early, empty, ?_⟩
      rw [templates]
      split
      · exact Templates.switched_switched _
      · rfl
  · rw [State.leftUp_group_of_ne here]
    exact ⟨rfl, rfl, rfl, rfl, rfl⟩

/-- A drain that completes with the leaving takes the switch that the soft reset would take. -/
theorem State.leftUp_streamAtReset (i : StreamId) : (s.leftUp p next).streamAtReset i = s.streamAtReset i := by
  rcases Group.sendingHead_cases (s.group p) with idle | ⟨head, rest, found⟩
  · rw [State.leftUp_of_idle idle]; exact State.streamAtReset_congr (fun _ => rfl) rfl
  obtain ⟨group, stream⟩ := State.leftUp_of_lost (next := next) found
  specialize stream i
  have templates := (Group.withoutHead_kept
    ({ s.group p with counters := raise (s.group p).counters GroupCounter.framesLostOnLink.index 1 } : Group) rest).2.2.2.2
  rw [← group] at templates
  by_cases taken : (s.group p).drains rest = true ∧ s.switchUnbinds p i = true
  · rw [if_pos taken] at stream
    have bound := (State.switchUnbinds_iff.mp taken.2).2.1
    rw [State.streamAtReset_eq_of_unbound (by rw [stream]; rfl), stream, State.streamAtReset_eq_of_bound bound, if_pos taken.2]
    rfl
  · rw [if_neg taken] at stream
    have same : ((s.leftUp p next).stream i).group = (s.stream i).group := by rw [stream]
    have unbinds : ∀ g, (s.leftUp p next).switchUnbinds g i = s.switchUnbinds g i := by
      intro g
      by_cases here : g = p
      · subst here
        by_cases drains : (s.group g).drains rest = true
        · have stays : s.switchUnbinds g i = false := Bool.eq_false_iff.mpr fun unbinds => taken ⟨drains, unbinds⟩
          rw [stays]
          refine Bool.eq_false_iff.mpr fun unbinds => (State.switchUnbinds_iff.mp unbinds).1 ?_
          rw [templates]
          exact (congrArg Templates.armed (if_pos drains)).trans (Templates.switched_armed _)
        · exact State.switchUnbinds_congr (templates.trans (if_neg drains)) same
      · exact State.switchUnbinds_congr (by rw [State.leftUp_group_of_ne here]) same
    cases bound : (s.stream i).group with
    | none =>
      rw [State.streamAtReset_eq_of_unbound bound, State.streamAtReset_eq_of_unbound (same.trans bound), stream]
      rfl
    | some g =>
      rw [State.streamAtReset_eq_of_bound bound, State.streamAtReset_eq_of_bound (same.trans bound), unbinds, stream]
      split <;> rfl

theorem State.sameAtReset_leftUp (s : State) (p : TrunkId) (next : Link) : s.SameAtReset (s.leftUp p next) where
  frame := by
    obtain ⟨pending, hold, resetN, time, mask, count, cells, _⟩ := State.leftUp_frame (s := s) (p := p) (next := next)
    exact ⟨pending, hold, resetN, time, mask, count, cells⟩
  node q := by
    obtain ⟨_, _, _, _, _, _, _, nodes⟩ := State.leftUp_frame (s := s) (p := p) (next := next)
    simp only [State.node, nodes]
  trunk q := by
    rw [State.leftUp_trunk]
    split
    · next here => subst here; exact Trunk.leaveUp_kept _ _
    · exact ⟨rfl, rfl, rfl⟩
  group := State.leftUp_group_kept
  stream := State.leftUp_streamAtReset

/-! ### What is left of the log and of the last closed units -/

theorem State.softReset_log : s.softReset.log = s.log := by simp [State.softReset, State.lookAtLines]

theorem State.softReset_lastClosed (q : TrunkId) : (s.softReset.trunk q).lastClosed = (s.trunk q).closedByCut (s.bytesOut q) := by
  rw [State.softReset_trunk, Trunk.atSoftReset_lookAtLine]

theorem Trunk.closedByCut_of_free {x : Trunk} (free : x.tx = none) (k : Nat) : x.closedByCut k = x.lastClosed := by
  rw [Trunk.closedByCut, free]

/-- A port that has left UP keeps the record of its cut unit through the reset. -/
theorem State.leftUp_closed (q : TrunkId) : ∃ k, ((s.leftUp p next).softReset.trunk q).lastClosed = (s.trunk q).closedByCut k := by
  rw [State.softReset_lastClosed]
  have trunk := State.leftUp_trunk (s := s) (p := p) (next := next) q
  by_cases here : p = q
  · subst here
    rw [if_pos rfl, Trunk.leaveUp_eq] at trunk
    exact ⟨_, by rw [Trunk.closedByCut_of_free (by rw [trunk]), trunk]⟩
  · rw [if_neg here] at trunk
    exact ⟨_, by rw [trunk]⟩

end

/-- Settles O6: the state each event comes to before the reset is one that a soft reset takes to the same values. -/
theorem softResetAtItsTwoEvents : Obligations.SoftResetAtItsTwoEvents := by
  refine ⟨?reply, ?leaving⟩
  case reply =>
    intro s p r rest u free pending tx reply replies reset ok
    set t := s.modTrunk p fun x =>
      { x with
        tx := none, lastClosed := u.wholeOnLine, replies := rest
        counters := raise x.counters TrunkCounter.repliesSent.index 1 } with ended
    have effect : s.endReply p r = t.softReset := by
      rw [State.endReply, State.endReply_trunk tx replies, if_pos ⟨pending, by rw [reset]; rfl, ok⟩]
    refine ⟨t.softReset, ?_, ?_, ?_, ?_, fun q h => ?_⟩
    · rw [execReplyTransmissionEnd_of_reply free (by rw [Trunk.sending_of_tx tx, reply]) replies, effect]
      exact congrArg Host.Outcome.next (State.Settled.withWaits (f := fun _ => t.softReset) (State.settled_softReset t))
    · have same := s.sameAtReset_modTrunk p (f := id) (f' := fun x =>
        { x with
          tx := none, lastClosed := u.wholeOnLine, replies := rest
          counters := raise x.counters TrunkCounter.repliesSent.index 1 }) rfl rfl rfl
      rw [s.modTrunk_id p id rfl] at same
      exact same.atSoftReset
    · rw [State.softReset_log]; rfl
    · rw [State.softReset_lastClosed, ended, State.trunk_modTrunk_self]; rfl
    · exact ⟨t.bytesOut q, by rw [State.softReset_lastClosed, ended, State.trunk_modTrunk_of_ne (h := h.symm)]⟩
  case leaving =>
    intro s p c next free pending loses
    obtain ⟨away, r, effect⟩ := exec_of_losesUp free loses
    rw [State.trunkLeaveUp_of_pending (s := s.modTrunk p fun x => x.losing next r) pending] at effect
    refine ⟨_, effect, ?_, ?_, fun q => ?_⟩
    · have left := (s.modTrunk p fun x => x.losing next r).sameAtReset_leftUp p next
      rcases away with rfl | rfl
      · rw [if_pos rfl]
        exact ((s.sameAtReset_modTrunk p (f := fun x => { x with line := false }) rfl rfl rfl).trans left).atSoftReset
      · rw [if_neg nofun]
        have same := s.sameAtReset_modTrunk p (f := id) (f' := fun x => x.losing .aligning r) rfl rfl rfl
        rw [s.modTrunk_id p id rfl] at same
        exact (same.trans left).atSoftReset
    · rw [State.softReset_log]
      exact State.leavingLogged_leftUp (s := s.modTrunk p fun x => x.losing next r)
    · obtain ⟨k, closed⟩ := State.leftUp_closed (s := s.modTrunk p fun x => x.losing next r) (p := p) (next := next) q
      refine ⟨k, closed.trans ?_⟩
      rw [State.trunk_modTrunk]
      split
      · next here => subst here; rfl
      · rfl

end Sys2Proof.Machine
end


section
/-! The engine's takings: FAULT_MASK, TRUNK_SET, and what is no taking (R128, R139, R147, R151). -/

namespace Sys2Proof.Machine

-- One after another, as in the tests: many proofs checked at once would each hold a thread.
set_option Elab.async false

/-! ### The names of requests (R175) -/

/-- The code of a request's name (R175). -/
def RequestName.number : RequestName → Byte
  | .ping => 1
  | .readStream => 2
  | .writeStream => 3
  | .templateLoad => 4
  | .templateCopy => 5
  | .templateRead => 6
  | .templateCommit => 7
  | .templateCancel => 8
  | .groupSet => 9
  | .groupStart => 10
  | .groupStop => 11
  | .groupAbort => 12
  | .groupStatus => 13
  | .rowList => 14
  | .portStatus => 15
  | .portSet => 16
  | .trunkSet => 17
  | .readCounters => 18
  | .faultRead => 19
  | .faultTake => 20
  | .faultMask => 21
  | .reset => 22

theorem RequestName.ofCode_number_or_none (code : Byte) :
    (RequestName.ofCode code).all (fun x => x.number == code) = true ∧
      ((RequestName.ofCode code).isNone = true → code = 0 ∨ 23 ≤ code.toNat) := by
  revert code; decide

theorem Request.name_of_named {r : Request} {x : RequestName} (h : r.named x = true) : r.name = x.number := by
  have named : RequestName.ofCode r.name = some x := by simpa [Request.named] using h
  have same := (RequestName.ofCode_number_or_none r.name).1
  rw [named] at same
  exact (beq_iff_eq.mp same).symm

theorem Instr.takes_of_named {r : Request} {x : RequestName} {code : Option Byte} (h : r.named x = true) (own : code = some x.number) :
    code = some r.name := by rw [own, Request.name_of_named h]

/-- Every command of the engine is a taking of the requests it takes (R139, R140). -/
theorem exec_of_isRequest {c : Instr} (h : c.isRequest = true) :
    ∃ mine act, (∀ s, exec c s = .next (s.takeRequest mine act)) ∧ ∀ r, mine r = true → c.Takes r := by
  cases c with
  | ping | readStream | writeStream | templateLoad | templateCopy | templateRead | templateCommit | templateCancel | groupSet | groupStart
  | groupStop | groupAbort | groupStatus | rowList | portStatus | portSet | trunkSet | readCounters | faultRead | faultTake | reset =>
    exact ⟨_, _, fun _ => rfl, fun _ mine => Instr.takes_of_named mine rfl⟩
  | faultMaskRead | faultMaskWrite =>
    refine ⟨_, _, fun _ => rfl, fun r mine => ?_⟩
    obtain ⟨named, mode⟩ := (Bool.and_eq_true _ _).mp mine
    exact ⟨Request.name_of_named named, bne_iff_ne.mp mode⟩
  | undefinedRequest =>
    exact ⟨_, _, fun _ => rfl, fun r mine => (RequestName.ofCode_number_or_none r.name).2 (by simpa using mine)⟩
  | _ => exact nomatch h

theorem State.nextTrunk_eq_none {s : State} (h : s.softPending ≠ none ∨ ∀ q, (s.trunk q).requests = [] ∨ 4 ≤ (s.trunk q).replies.length) :
    s.nextTrunk = none := by
  rcases h with pending | idle
  · exact if_pos (Option.isSome_iff_ne_none.mpr pending)
  · have ineligible : ∀ q, (s.trunk q).eligible = false := fun q => by
      rcases idle q with empty | full
      · simp [Trunk.eligible, empty]
      · simp [Trunk.eligible, full]
    simp [State.nextTrunk, ineligible]

/-- Settles O49: without a port to serve nothing is taken, and the request that is next is not the command's. -/
theorem engineTakesNothingElse : Obligations.EngineTakesNothingElse := by
  intro s c _ request
  obtain ⟨mine, act, command, takes⟩ := exec_of_isRequest request
  refine ⟨fun idle => ?_, fun p r rest served other => ?_⟩
  · rw [command, State.takeRequest_of_none (State.nextTrunk_eq_none idle)]
  · rw [command, State.takeRequest_of_serves served, if_neg (mt (takes r) other)]

/-! ### FAULT_MASK (R151) -/

section
variable {s : State} {p : TrunkId} {r : Request} {mode m : Word} {more : List Word}

theorem actFaultMask_of_read (args : r.args = [0]) : actFaultMask s p r = s.accept [maskWord s.alertMask] := by
  simp [actFaultMask, args]

theorem actFaultMask_of_write (args : r.args = [1, m]) (flags : 1 ≤ m.toNat ∧ m.toNat < 8192) :
    actFaultMask s p r = { s with alertMask := m.setWidth 13 }.accept [maskWord (m.setWidth 13)] := by
  simp only [actFaultMask, args]
  exact if_pos flags

theorem actFaultMask_of_bad_mask (args : r.args = [1, m]) (h : m.toNat = 0 ∨ 8192 ≤ m.toNat) :
    actFaultMask s p r = s.refuse .badArgument := by
  simp only [actFaultMask, args]
  exact if_neg (show ¬(1 ≤ m.toNat ∧ m.toNat < 8192) by omega)

theorem actFaultMask_of_bad_length (h : r.args = [] ∨ (∃ more, more ≠ [] ∧ r.args = 0 :: more) ∨ ∃ more, more.length ≠ 1 ∧ r.args = 1 :: more) :
    actFaultMask s p r = s.refuse .badLength := by
  rcases h with args | ⟨more, some, args⟩ | ⟨more, count, args⟩
  · simp only [actFaultMask, args]
  · simp [actFaultMask, args, some]
  · match more, count with
    | [], _ => simp [actFaultMask, args]
    | _ :: _ :: _, _ => simp [actFaultMask, args]

theorem actFaultMask_of_bad_mode (args : r.args = mode :: more) (h : 2 ≤ mode.toNat) : actFaultMask s p r = s.refuse .badArgument := by
  simp only [actFaultMask, args]
  rw [if_neg (by omega), if_neg (by omega)]

end

/-- A mask of thirteen flags is read back as it was written. -/
theorem maskWord_setWidth {m : Word} (h : m.toNat < 8192) : maskWord (m.setWidth 13) = m := by
  refine BitVec.eq_of_toNat_eq ?_
  rw [maskWord, BitVec.toNat_setWidth, BitVec.toNat_setWidth]
  omega

/-- Settles O48: each check, in order, gives its answer under the command that takes the request. -/
theorem faultMaskReadsAndWrites : Obligations.FaultMaskReadsAndWrites := by
  intro s p r rest served name u
  have own : r.named .faultMask = true := Request.named_of_ofCode (by rw [name]; rfl)
  have ownRead (head : r.args.head? ≠ some 1) : (r.named .faultMask && r.args.head? != some 1) = true :=
    (Bool.and_eq_true _ _).mpr ⟨own, bne_iff_ne.mpr head⟩
  have ownWrite (head : r.args.head? ≠ some 0) : (r.named .faultMask && r.args.head? != some 0) = true :=
    (Bool.and_eq_true _ _).mpr ⟨own, bne_iff_ne.mpr head⟩
  refine ⟨fun args => ?_, fun more some args => ?_, fun m args => ⟨fun nonzero flags => ?_, fun out => ?_⟩, fun more count args => ?_,
    fun mode more args above => ⟨?_, ?_⟩, fun args => ⟨?_, ?_⟩⟩
  · exact answers_of_act (c := .faultMaskRead) served rfl (ownRead (by simp [args])) (actFaultMask_of_read args)
  · exact refuses_of_act (c := .faultMaskRead) served rfl (ownRead (by simp [args])) (actFaultMask_of_bad_length (.inr (.inl ⟨more, some, args⟩)))
  · have written := actFaultMask_of_write (s := s.afterTaking p rest) (p := p) args ⟨nonzero, flags⟩
    rw [maskWord_setWidth flags] at written
    exact answers_of_act (c := .faultMaskWrite) served rfl (ownWrite (by simp [args])) written
  · exact refuses_of_act (c := .faultMaskWrite) served rfl (ownWrite (by simp [args])) (actFaultMask_of_bad_mask args out)
  · exact refuses_of_act (c := .faultMaskWrite) served rfl (ownWrite (by simp [args])) (actFaultMask_of_bad_length (.inr (.inr ⟨more, count, args⟩)))
  · have head : r.args.head? ≠ some 1 := by rw [args]; rintro ⟨⟩; exact absurd above (by decide)
    exact refuses_of_act (c := .faultMaskRead) served rfl (ownRead head) (actFaultMask_of_bad_mode args above)
  · have head : r.args.head? ≠ some 0 := by rw [args]; rintro ⟨⟩; exact absurd above (by decide)
    exact refuses_of_act (c := .faultMaskWrite) served rfl (ownWrite head) (actFaultMask_of_bad_mode args above)
  · exact refuses_of_act (c := .faultMaskRead) served rfl (ownRead (by simp [args])) (actFaultMask_of_bad_length (.inl args))
  · exact refuses_of_act (c := .faultMaskWrite) served rfl (ownWrite (by simp [args])) (actFaultMask_of_bad_length (.inl args))

/-! ### TRUNK_SET (R128, R147) -/

section
variable {s : State} {p q : TrunkId} {r : Request} {w set : Word} {values : List Word} {interval limit : Option Word}

theorem trunkSetInRange_iff :
    trunkSetInRange interval limit = true ↔
      (∀ v, interval = some v → v.toNat = 0 ∨ (10 ≤ v.toNat ∧ v.toNat ≤ 65535)) ∧ ∀ v, limit = some v → v.toNat ≤ 255 := by
  unfold trunkSetInRange
  cases interval <;> cases limit <;> simp

/-- What the named settings make of a port: each setting that is named restarts its timer (R128). -/
theorem State.setTrunkParams_eq (s : State) (q : TrunkId) (interval limit : Option Word) :
    s.setTrunkParams q interval limit = s.modTrunk q fun y =>
      { y with
        markInterval := (interval.map BitVec.toNat).getD (s.trunk q).markInterval
        starveLimit := (limit.map BitVec.toNat).getD (s.trunk q).starveLimit
        markTimer :=
          if interval = none then y.markTimer
          else if (s.trunk q).link = .up ∧ (interval.map BitVec.toNat).getD (s.trunk q).markInterval ≠ 0 then
            some (s.time + BitVec.ofNat 32 ((interval.map BitVec.toNat).getD (s.trunk q).markInterval))
          else none
        starveTimer :=
          if limit = none then y.starveTimer
          else if s.creditWait q = true ∧ (limit.map BitVec.toNat).getD (s.trunk q).starveLimit ≠ 0 ∧ (s.trunk q).starveLogged = false then
            some (s.time + BitVec.ofNat 32 ((limit.map BitVec.toNat).getD (s.trunk q).starveLimit * 1000))
          else none } := by
  have wait : ∀ n, (s.setMarkInterval q n).creditWait q = s.creditWait q := fun n =>
    State.creditWait_congr _ _ _ (by simp [State.setMarkInterval]) (by simp [State.setMarkInterval]) (by simp [State.setMarkInterval])
  unfold State.setTrunkParams
  cases interval with
  | none =>
    cases limit with
    | none => exact (s.modTrunk_id q _ rfl).symm
    | some l => exact s.modTrunk_congr q _ _ (by simp)
  | some i =>
    cases limit with
    | none => exact s.modTrunk_congr q _ _ (by simp)
    | some l =>
      simp only [State.setStarveLimit, wait]
      rw [State.setMarkInterval, State.modTrunk_modTrunk]
      exact s.modTrunk_congr q _ _ (by simp)

theorem actTrunkSet_of_short (h : r.args.length < 2) : actTrunkSet s p r = s.refuse .badLength := by
  unfold actTrunkSet
  split
  next args => simp [args] at h
  next => rfl

theorem actTrunkSet_of_miscounted (args : r.args = w :: set :: values) (h : values.length ≠ namedCount 2 set) :
    actTrunkSet s p r = s.refuse .badLength := by
  simp [actTrunkSet, args, h]

theorem actTrunkSet_of_bad_argument (args : r.args = w :: set :: values) (counted : values.length = namedCount 2 set)
    (h : argGroup w = none ∨ setInRange 2 set = false ∨ trunkSetInRange (namedValue set values 0) (namedValue set values 1) = false) :
    actTrunkSet s p r = s.refuse .badArgument := by
  simp only [actTrunkSet, args, counted]
  cases port : argGroup w with
  | none => simp
  | some q =>
    rw [port] at h
    simp only [reduceCtorEq, false_or] at h
    simp [h]

theorem actTrunkSet_of_good_arguments (args : r.args = w :: set :: values) (counted : values.length = namedCount 2 set)
    (port : argGroup w = some q) (items : setInRange 2 set = true)
    (inRange : trunkSetInRange (namedValue set values 0) (namedValue set values 1) = true) :
    actTrunkSet s p r = (s.setTrunkParams q (namedValue set values 0) (namedValue set values 1)).accept
      [natWord ((s.setTrunkParams q (namedValue set values 0) (namedValue set values 1)).trunk q).markInterval,
        natWord ((s.setTrunkParams q (namedValue set values 0) (namedValue set values 1)).trunk q).starveLimit] := by
  simp [actTrunkSet, args, counted, port, items, inRange]

/-- The taking of a request changes the request queue of its port alone. -/
theorem State.afterTaking_trunk (s : State) (p : TrunkId) (rest : List Request) (q : TrunkId) :
    ∃ waiting, (s.afterTaking p rest).trunk q = { s.trunk q with requests := waiting } := by
  rw [State.afterTaking, State.trunk_modTrunk]
  split
  · next here => subst here; exact ⟨rest, rfl⟩
  · exact ⟨_, rfl⟩

end

/-- Settles O45: each check, in order, gives its answer; past them all, `State.setTrunkParams_eq` says what the port becomes. -/
theorem trunkSetRestartsTheTimers : Obligations.TrunkSetRestartsTheTimers := by
  intro s p r rest served name
  have own : r.named .trunkSet = true := Request.named_of_ofCode (by rw [name]; rfl)
  have refuses {status : Status} (h : actTrunkSet (s.afterTaking p rest) p r = (s.afterTaking p rest).refuse status) :
      Refuses .trunkSet s p r rest status := refuses_of_act served rfl own h
  refine ⟨fun short => refuses (actTrunkSet_of_short short), fun w set values args =>
    ⟨fun miscounted => refuses (actTrunkSet_of_miscounted args miscounted), fun counted => ?_⟩⟩
  intro interval limit inRange
  refine ⟨fun bad => ?_, ?_⟩
  · refine refuses (actTrunkSet_of_bad_argument args counted ?_)
    rw [argGroup_eq_none_iff, setInRange_eq_false_iff, ← Bool.not_eq_true, trunkSetInRange_iff]
    rcases bad with port | none | beyond | out
    · exact .inl port
    · exact .inr (.inl (.inl none))
    · exact .inr (.inl (.inr beyond))
    · exact .inr (.inr out)
  · intro q port nonempty within good x newInterval newLimit
    have answer := actTrunkSet_of_good_arguments (s := s.afterTaking p rest) (p := p) (q := q) args counted (by rw [port]; exact argGroup_natWord q)
      (setInRange_eq_true_iff.mpr ⟨nonempty, within⟩) (trunkSetInRange_iff.mpr good)
    obtain ⟨waiting, trunk⟩ := s.afterTaking_trunk p rest q
    have wait : (s.afterTaking p rest).creditWait q = s.creditWait q :=
      State.creditWait_congr _ _ _ (by rw [trunk]) (by rw [trunk]) rfl
    rw [State.setTrunkParams_eq, State.trunk_modTrunk_self, trunk, wait] at answer
    exact answers_of_act served rfl own answer

end Sys2Proof.Machine
end


section
/-! The requests that read the state (R45, R142, R143, R144), and TEMPLATE_COMMIT (R47 to R49). -/

namespace Sys2Proof.Machine

-- One after another, as in the tests: many proofs checked at once would each hold a thread.
set_option Elab.async false

section
variable {s : State} {p : TrunkId} {r : Request} {rest : List Request} {w k : Word} {g : GroupId}

/-! ### READ_STREAM (R142) -/

theorem actReadStream_of_miscounted (h : r.args.length ≠ 1) : actReadStream s p r = s.refuse .badLength := by
  unfold actReadStream
  split
  next args => simp [args] at h
  next => rfl

theorem actReadStream_of_bad_argument (args : r.args = [w]) (h : argStream w = none) : actReadStream s p r = s.refuse .badArgument := by
  simp only [actReadStream, args, h]

theorem actReadStream_of_stream {i : StreamId} (args : r.args = [natWord i.val]) :
    actReadStream s p r = s.accept (s.stream i).statusWords := by
  simp only [actReadStream, args, argStream_natWord]

/-- The words of a stream entry, without a hold store and with one (R142). -/
theorem Stream.statusWords_eq (x : Stream) (tail : List Word) (h : optionalWords (x.holdStore.map (exactWords x.length)) = tail) :
    x.statusWords =
      [flagWord x.enabled, natWord x.port.val, natWord x.length, BitVec.ofInt 32 x.offset, natWord x.fillPolicy.code, x.fillConstant,
        natWord x.dupPolicy.code, natWord x.threshold, natWord (groupCode x.group), natWord x.state.code, natWord x.fillRun,
        natWord x.refs] ++ tail := by
  subst h; rfl

/-! ### TEMPLATE_READ (R45) -/

theorem actTemplateRead_of_miscounted (h : r.args.length ≠ 2) : actTemplateRead s p r = s.refuse .badLength := by
  unfold actTemplateRead
  split
  next args => simp [args] at h
  next => rfl

theorem actTemplateRead_of_bad_argument {b : Word} (args : r.args = [w, b]) (h : argGroup w = none ∨ 2 ≤ b.toNat) :
    actTemplateRead s p r = s.refuse .badArgument := by
  simp only [actTemplateRead, args]
  cases group : argGroup w with
  | none => rfl
  | some g =>
    have above : 2 ≤ b.toNat := by simpa [group] using h
    dsimp only
    rw [if_neg (by omega), if_neg (by omega)]

theorem actTemplateRead_of_active (args : r.args = [natWord g.val, 0]) :
    actTemplateRead s p r = s.accept ((s.group g).templates.bankWords (s.group g).templates.activeBank) := by
  simp [actTemplateRead, args]

theorem actTemplateRead_of_other (args : r.args = [natWord g.val, 1]) :
    actTemplateRead s p r = s.accept ((s.group g).templates.bankWords (s.group g).templates.activeBank.other) := by
  simp [actTemplateRead, args]

theorem BankLetter.other_ne (b : BankLetter) : b.other ≠ b := by cases b <;> nofun

/-- The words of the ACTIVE bank (R45). -/
theorem Templates.bankWords_active (x : Templates) :
    x.bankWords x.activeBank =
      [natWord x.activeBank.code, 0, 1, natWord x.activeGen.toNat, 0, natWord x.activeSlots.length] ++ x.activeSlots.flatMap slotWords := by
  simp [Templates.bankWords, Templates.role, Templates.bankGen, Templates.bankSlots, optionalWords, Role.code, natWord]

/-- The words of the IDLE bank (R45). -/
theorem Templates.bankWords_idle {x : Templates} (idle : x.armed = none) :
    x.bankWords x.activeBank.other =
      [natWord x.activeBank.other.code, 1, 0, 0] ++ natWord x.otherSlots.length :: x.otherSlots.flatMap slotWords := by
  simp [Templates.bankWords, Templates.role, Templates.bankGen, Templates.bankSlots, optionalWords, Role.code, natWord, idle,
    BankLetter.other_ne]

/-- The words of the ARMED bank (R45). -/
theorem Templates.bankWords_armed {x : Templates} {a : Armed} (armed : x.armed = some a) :
    x.bankWords x.activeBank.other =
      [natWord x.activeBank.other.code, 2, 1, natWord a.generation.toNat, 1, a.switchAt] ++
        natWord x.otherSlots.length :: x.otherSlots.flatMap slotWords := by
  simp [Templates.bankWords, Templates.role, Templates.bankGen, Templates.bankSlots, optionalWords, Role.code, natWord, armed,
    BankLetter.other_ne]

/-! ### GROUP_STATUS and ROW_LIST (R143, R144) -/

theorem actGroupStatus_eq : actGroupStatus s p r = answerForGroup (fun s g => s.accept (s.groupWords g)) s r := rfl

theorem State.groupWords_eq (cursor armed : List Word) (trunk : Trunk) {x : Group} (group : s.group g = x)
    (link : (s.trunk g).link = trunk.link ∧ (s.trunk g).credit = trunk.credit ∧ (s.trunk g).markDebt = trunk.markDebt ∧
      (s.trunk g).markInterval = trunk.markInterval ∧ (s.trunk g).starveLimit = trunk.starveLimit ∧
      (s.trunk g).starveLogged = trunk.starveLogged)
    (set : optionalWords (x.cursor.map fun e => [e]) = cursor)
    (commit : optionalWords (x.templates.armed.map fun a => [natWord a.generation.toNat, a.switchAt]) = armed) :
    s.groupWords g =
      [natWord x.state.code] ++ cursor
        ++ [natWord x.rows.length, natWord x.lateRun, natWord x.queue.length, flagWord x.headSending, natWord x.templates.activeGen.toNat]
        ++ armed
        ++ [natWord x.depth, natWord x.holdTime, natWord x.early.code, natWord x.empty.code, natWord s.freeRows.length,
            natWord s.freeCells.length, natWord trunk.link.code, natWord trunk.credit, natWord trunk.markDebt, natWord trunk.markInterval,
            natWord trunk.starveLimit, flagWord trunk.starveLogged] := by
  obtain ⟨link, credit, debt, interval, limit, logged⟩ := link
  subst group set commit
  simp [State.groupWords, Group.paramWords, link, credit, debt, interval, limit, logged]

theorem actRowList_of_miscounted (h : r.args.length ≠ 2) : actRowList s p r = s.refuse .badLength := by
  unfold actRowList
  split
  next args => simp [args] at h
  next => rfl

theorem actRowList_of_bad_argument (args : r.args = [w, k]) (h : argGroup w = none ∨ 64 ≤ k.toNat) :
    actRowList s p r = s.refuse .badArgument := by
  simp only [actRowList, args]
  cases group : argGroup w with
  | none => rfl
  | some g =>
    have above : 64 ≤ k.toNat := by simpa [group] using h
    exact if_pos (by omega)

theorem actRowList_of_start (args : r.args = [natWord g.val, k]) (h : k.toNat ≤ 63) :
    actRowList s p r = s.accept (natWord (s.group g).rows.length :: natWord (((s.group g).rows.drop k.toNat).take 16).length ::
      (((s.group g).rows.drop k.toNat).take 16).flatMap (s.rowWords g)) := by
  simp only [actRowList, args, argGroup_natWord]
  exact if_neg (by omega)

theorem State.rowWait_word (s : State) (x : Row) : natWord (s.rowWait x) = if x.expired then 0 else x.deadline - s.time := by
  rw [State.rowWait]
  split
  · rfl
  · rw [natWord, distance, BitVec.ofNat_toNat, BitVec.setWidth_eq]

theorem State.rowWords_eq :
    s.rowWords g = fun x =>
      [x.instant, natWord x.generation.toNat, natWord ((s.group g).rowDue x), natWord x.present, flagWord ((s.group g).rowRipe x),
        if x.expired then 0 else x.deadline - s.time] := by
  funext x
  rw [← State.rowWait_word]
  rfl

end

/-- Settles O36: each check, in order, gives its answer; the result words are those of the part's state. -/
theorem statusReadsReportTheState : Obligations.StatusReadsReportTheState := by
  intro s p r rest served u
  refine ⟨fun name => ?stream, fun name => ?template, fun name => ?group, fun name => ?rows⟩
  case stream =>
    have own : r.named .readStream = true := Request.named_of_ofCode (by rw [name]; rfl)
    refine ⟨fun miscounted => refuses_of_act (c := .readStream) served rfl own (actReadStream_of_miscounted miscounted), fun w args out =>
      refuses_of_act (c := .readStream) served rfl own (actReadStream_of_bad_argument args (argStream_eq_none_iff.mpr out)), fun i args => ?_⟩
    refine answers_of_act (c := .readStream) served rfl own ((actReadStream_of_stream args).trans ?_)
    rw [State.afterTaking_stream]
    refine congrArg (State.accept _) (Stream.statusWords_eq _ _ ?_)
    cases (s.stream i).holdStore <;> rfl
  case template =>
    have own : r.named .templateRead = true := Request.named_of_ofCode (by rw [name]; rfl)
    refine ⟨fun miscounted => refuses_of_act (c := .templateRead) served rfl own (actTemplateRead_of_miscounted miscounted), fun w b args out =>
      refuses_of_act (c := .templateRead) served rfl own
        (actTemplateRead_of_bad_argument args (out.imp_left argGroup_eq_none_iff.mpr)), ?_⟩
    intro g x
    refine ⟨fun args => ?_, fun args => ?_⟩
    · exact answers_of_act (c := .templateRead) served rfl own
        ((actTemplateRead_of_active args).trans (congrArg (State.accept _) x.bankWords_active))
    · refine answers_of_act (c := .templateRead) served rfl own ((actTemplateRead_of_other args).trans (congrArg (State.accept _) ?_))
      cases armed : x.armed with
      | none => exact Templates.bankWords_idle armed
      | some a => exact Templates.bankWords_armed armed
  case group =>
    have own : r.named .groupStatus = true := Request.named_of_ofCode (by rw [name]; rfl)
    obtain ⟨badLength, badArgument, answer⟩ := checks_of_answerForGroup (c := .groupStatus) served rfl own actGroupStatus_eq
    refine ⟨badLength, badArgument, fun g args => ?_⟩
    refine answers_of_act (c := .groupStatus) served rfl own ((answer g args).trans (congrArg (State.accept _) ?_))
    obtain ⟨waiting, trunk⟩ := s.afterTaking_trunk p rest g
    refine State.groupWords_eq _ _ (s.trunk g) rfl (by rw [trunk]; exact ⟨rfl, rfl, rfl, rfl, rfl, rfl⟩) ?_ ?_
    · cases (s.group g).cursor <;> rfl
    · cases (s.group g).templates.armed <;> rfl
  case rows =>
    have own : r.named .rowList = true := Request.named_of_ofCode (by rw [name]; rfl)
    refine ⟨fun miscounted => refuses_of_act (c := .rowList) served rfl own (actRowList_of_miscounted miscounted), fun w k args out =>
      refuses_of_act (c := .rowList) served rfl own
        (actRowList_of_bad_argument args (out.imp_left argGroup_eq_none_iff.mpr)), fun g k args few => ?_⟩
    refine answers_of_act (c := .rowList) served rfl own ((actRowList_of_start args few).trans (congrArg (State.accept _) ?_))
    rw [State.rowWords_eq]
    rfl

/-! ### TEMPLATE_COMMIT (R47 to R49) -/

section
variable {s : State} {p : TrunkId} {r : Request} {w mode n : Word} {g : GroupId}

theorem actTemplateCommit_of_miscounted (h : r.args.length ≠ 3) : actTemplateCommit s p r = s.refuse .badLength := by
  unfold actTemplateCommit
  split
  next args => simp [args] at h
  next => rfl

theorem actTemplateCommit_of_bad_argument (args : r.args = [w, mode, n]) (h : argGroup w = none ∨ 2 ≤ mode.toNat) :
    actTemplateCommit s p r = s.refuse .badArgument := by
  simp only [actTemplateCommit, args]
  cases group : argGroup w with
  | none => rfl
  | some g =>
    have above : 2 ≤ mode.toNat := by simpa [group] using h
    exact if_pos (by omega)

/-- What TEMPLATE_COMMIT answers past its argument checks: LOCKED, then CONFLICT, then by the cursor (R47). -/
def State.answerCommit (s : State) (g : GroupId) (atMode : Bool) (n : Instant) : Answer :=
  let gen := (s.group g).templates.activeGen + 1
  if (s.group g).templates.armed.isSome then s.refuse .locked
  else if s.commitConflict g (s.group g).templates.otherSlots then s.refuse .conflict
  else
    (s.group g).cursor.elim ((s.commitNow g).accept [0, natWord gen.toNat, 0]) fun e =>
      ((s.group g).switchInstant e atMode n).elim (s.refuse .tooSoon) fun at_ =>
        (s.commitArmed g at_).accept [1, natWord gen.toNat, 1, at_]

theorem actTemplateCommit_of_group (args : r.args = [natWord g.val, mode, n]) (few : mode.toNat ≤ 1) :
    actTemplateCommit s p r = s.answerCommit g (mode.toNat == 1) n := by
  simp only [actTemplateCommit, args, argGroup_natWord, if_neg (show ¬1 < mode.toNat by omega)]
  unfold State.answerCommit
  dsimp only
  split
  · rfl
  · split
    · rfl
    · cases (s.group g).cursor with
      | none => rfl
      | some e =>
        rw [Option.elim_some]
        dsimp only
        cases (s.group g).switchInstant e (mode.toNat == 1) n <;> rfl

section
variable {atMode : Bool} (idle : (s.group g).templates.armed = none)
include idle

theorem State.answerCommit_of_conflict (conflict : s.commitConflict g (s.group g).templates.otherSlots = true) :
    s.answerCommit g atMode n = s.refuse .conflict := by
  simp [State.answerCommit, idle, conflict]

variable (agrees : s.commitConflict g (s.group g).templates.otherSlots = false)
include agrees

theorem State.answerCommit_of_unset (unset : (s.group g).cursor = none) :
    s.answerCommit g atMode n = (s.commitNow g).accept [0, natWord ((s.group g).templates.activeGen + 1).toNat, 0] := by
  simp [State.answerCommit, idle, agrees, unset]

theorem State.answerCommit_of_too_soon {e : Instant} (set : (s.group g).cursor = some e)
    (soon : (s.group g).switchInstant e atMode n = none) : s.answerCommit g atMode n = s.refuse .tooSoon := by
  simp [State.answerCommit, idle, agrees, set, soon]

theorem State.answerCommit_of_armed {e at_ : Instant} (set : (s.group g).cursor = some e)
    (found : (s.group g).switchInstant e atMode n = some at_) :
    s.answerCommit g atMode n = (s.commitArmed g at_).accept [1, natWord ((s.group g).templates.activeGen + 1).toNat, 1, at_] := by
  simp [State.answerCommit, idle, agrees, set, found]

end

theorem State.answerCommit_of_locked {atMode : Bool} (armed : (s.group g).templates.armed ≠ none) :
    s.answerCommit g atMode n = s.refuse .locked :=
  if_pos (Option.isSome_iff_ne_none.mpr armed)

/-- CONFLICT (R47): a stream of the IDLE list is not enabled, or is bound to the other group. -/
theorem State.commitConflict_iff {slots : List Slot} :
    s.commitConflict g slots = true ↔ ∃ y ∈ slots, (s.stream y.stream).enabled = false ∨
      ((s.stream y.stream).group ≠ none ∧ (s.stream y.stream).group ≠ some g) := by
  simp [State.commitConflict, Option.isSome_iff_ne_none]

/-- The switch instant in mode NEXT, and in mode AT the instant carried, where it is not too soon (R49). -/
theorem Group.switchInstant_eq (x : Group) (e : Instant) (few : mode.toNat ≤ 1) :
    x.switchInstant e (mode.toNat == 1) n =
      if mode = 1 ∧ (¬(n = e + BitVec.ofNat 32 x.depth ∨ before (e + BitVec.ofNat 32 x.depth) n = true) ∨ 2147483648 ≤ (n - e).toNat) then
        none
      else some (if mode = 1 then n else e + BitVec.ofNat 32 x.depth) := by
  have inTime : x.switchInstant e true n =
      if (n = e + BitVec.ofNat 32 x.depth ∨ before (e + BitVec.ofNat 32 x.depth) n = true) ∧ (n - e).toNat < 2147483648 then some n
      else none := by
    simp only [Group.switchInstant, atOrAfter_iff, distance, if_true]
  rcases (by omega : mode.toNat = 0 ∨ mode.toNat = 1) with next | at_
  · have other : mode ≠ 1 := by rintro rfl; exact absurd next (by decide)
    rw [next, if_neg fun soon => other soon.1, if_neg other]
    rfl
  · have same : mode = 1 := BitVec.eq_of_toNat_eq at_
    rw [at_, beq_self_eq_true, inTime]
    by_cases good : (n = e + BitVec.ofNat 32 x.depth ∨ before (e + BitVec.ofNat 32 x.depth) n = true) ∧ (n - e).toNat < 2147483648
    · rw [if_pos good, if_neg fun soon => soon.2.elim (· good.1) (Nat.not_le.mpr good.2), if_pos same]
    · rw [if_neg good, if_pos ⟨same, (not_and_or.mp good).imp_right Nat.not_lt.mp⟩]

/-- Newly present in a commit that finds no ARMED bank: in the IDLE list and not in the ACTIVE list (R22). -/
theorem Templates.newlyNames_iff {t : Templates} {i : StreamId} (idle : t.armed = none) :
    t.newlyNames i = true ↔ (∃ y ∈ t.otherSlots, y.stream = i) ∧ ∀ y ∈ t.activeSlots, y.stream ≠ i := by
  have names := not_congr (Templates.names_iff (t := t) (i := i))
  simp only [idle, ne_eq, not_true_eq_false, false_and, or_false, not_exists, not_and, Bool.not_eq_true] at names
  simp only [Templates.newlyNames, Bool.and_eq_true, namesStream_eq_true, Bool.not_eq_true', names, ne_eq]

theorem State.commitNow_eq : s.commitNow g = { s with groups := (s.commitNow g).groups, streams := (s.commitNow g).streams } := by
  apply State.ext_fields <;> simp

theorem State.commitArmed_eq :
    s.commitArmed g n = { s with groups := (s.commitArmed g n).groups, streams := (s.commitArmed g n).streams } := by
  apply State.ext_fields <;> simp

end

/-- Settles O39: `State.answerCommit` decides by the ARMED bank, the conflict and the cursor; what each commit makes of the groups and of
the stream table is said once for all states. -/
theorem templateCommitTakesOverOrArms : Obligations.TemplateCommitTakesOverOrArms := by
  intro s p r rest served name u
  have own : r.named .templateCommit = true := Request.named_of_ofCode (by rw [name]; rfl)
  have refuses {status : Status} (h : actTemplateCommit u p r = u.refuse status) : Refuses .templateCommit s p r rest status :=
    refuses_of_act served rfl own h
  refine ⟨fun miscounted => refuses (actTemplateCommit_of_miscounted miscounted), fun w mode n args out =>
    refuses (actTemplateCommit_of_bad_argument args (out.imp_left argGroup_eq_none_iff.mpr)), ?_⟩
  intro g mode n args few x conflict isNew bound
  have answer : actTemplateCommit u p r = u.answerCommit g (mode.toNat == 1) n := actTemplateCommit_of_group args few
  have agrees (none : ¬conflict) : u.commitConflict g (u.group g).templates.otherSlots = false :=
    Bool.eq_false_iff.mpr (mt State.commitConflict_iff.mp none)
  refine ⟨fun armed => refuses (answer.trans (State.answerCommit_of_locked armed)), fun idle clash => refuses (answer.trans
    (State.answerCommit_of_conflict idle (State.commitConflict_iff.mpr clash))), fun idle none unset => ?_, ?_⟩
  · refine ⟨u.commitNow g, answers_of_act served rfl own (answer.trans (State.answerCommit_of_unset idle (agrees none) unset)),
      State.commitNow_group_self, fun _ h => State.commitNow_group_of_ne h, fun i => ?_, State.commitNow_eq⟩
    have stream := State.commitNow_stream (s := u) (g := g) (i := i)
    have new : (u.group g).templates.newlyNames i = true ↔ isNew i := Templates.newlyNames_iff idle
    refine ⟨fun named => ?_, fun old here left => ?_, fun old stays => ?_⟩
    · rw [stream, if_pos (new.mpr named)]; rfl
    · rw [stream, if_neg (mt new.mp old), if_pos ⟨here, namesStream_eq_false.mpr left⟩]; rfl
    · have kept : ¬((u.stream i).group = some g ∧ namesStream (u.group g).templates.otherSlots i = false) := by
        rintro ⟨here, left⟩
        rcases stays with elsewhere | ⟨y, mem, same⟩
        · exact elsewhere here
        · exact namesStream_eq_false.mp left y mem same
      rw [stream, if_neg (mt new.mp old), if_neg kept]; rfl
  · intro e idle none set earliest tooSoon at_
    have instant : (u.group g).switchInstant e (mode.toNat == 1) n = if tooSoon then Option.none else some at_ := Group.switchInstant_eq _ e few
    refine ⟨fun soon => ?_, fun later => ?_⟩
    · exact refuses (answer.trans (State.answerCommit_of_too_soon idle (agrees none) set (instant.trans (if_pos soon))))
    · refine ⟨u.commitArmed g at_, answers_of_act served rfl own (answer.trans (State.answerCommit_of_armed (s := u) idle (agrees none) set
        (instant.trans (if_neg later)))), State.commitArmed_group_self, fun _ h => State.commitArmed_group_of_ne h, fun i => ?_,
        State.commitArmed_eq⟩
      have stream := State.commitArmed_stream (s := u) (g := g) (i := i) (n := at_)
      have new : (u.group g).templates.newlyNames i = true ↔ isNew i := Templates.newlyNames_iff idle
      refine ⟨fun named => ?_, fun old => ?_⟩
      · rw [stream, if_pos (new.mpr named)]; rfl
      · rw [stream, if_neg (mt new.mp old)]; rfl

end Sys2Proof.Machine
end


section
/-! Units composed by the layouts of R172 to R174 are read back whole. -/

namespace Sys2Proof.Machine

-- One after another, as in the tests: many proofs checked at once would each hold a thread.
set_option Elab.async false

/-! ### Words, bytes and the CRC (R170, R171) -/

theorem extractLsb'_append_low {m n : Nat} (c : BitVec (m + n)) : (c.extractLsb' n m ++ c.extractLsb' 0 n : BitVec (m + n)) = c := by
  refine BitVec.eq_of_getLsbD_eq fun i hi => ?_
  rw [BitVec.getLsbD_append, BitVec.getLsbD_extractLsb', BitVec.getLsbD_extractLsb']
  by_cases low : i < n
  · simp [low]
  · simp [low, show i - n < m by omega, show n + (i - n) = i by omega]

theorem wordOfBytes_bytes (w : Word) : wordOfBytes (w.extractLsb' 24 8) (w.extractLsb' 16 8) (w.extractLsb' 8 8) (w.extractLsb' 0 8) = w := by
  refine BitVec.eq_of_getLsbD_eq fun i hi => ?_
  simp only [wordOfBytes, BitVec.getLsbD_append, BitVec.getLsbD_extractLsb']
  by_cases h8 : i < 8
  · simp [h8]
  by_cases h16 : i < 16
  · simp [h8, show i - 8 < 8 by omega, show 8 + (i - 8) = i by omega]
  by_cases h24 : i < 24
  · simp [h8, show ¬i - 8 < 8 by omega, show i - 8 - 8 < 8 by omega, show 16 + (i - 8 - 8) = i by omega]
  · simp [h8, show ¬i - 8 < 8 by omega, show ¬i - 8 - 8 < 8 by omega, show i - 8 - 8 - 8 < 8 by omega,
      show 24 + (i - 8 - 8 - 8) = i by omega]

theorem wordsOfBytes_flatMap (words : List Word) : wordsOfBytes (words.flatMap bytesOfWord) = words := by
  induction words with
  | nil => rfl
  | cons w ws ih =>
    rw [List.flatMap_cons, bytesOfWord]
    simp only [List.cons_append, List.nil_append, wordsOfBytes, wordOfBytes_bytes, ih]

theorem length_flatMap_bytesOfWord (words : List Word) : (words.flatMap bytesOfWord).length = 4 * words.length := by
  induction words with
  | nil => rfl
  | cons w ws ih =>
    rw [List.flatMap_cons, List.length_append, ih, List.length_cons, bytesOfWord]
    simp only [List.length_cons, List.length_nil]
    omega

theorem splitCrc_append (body : List Byte) (c : Crc) : splitCrc (body ++ [c.extractLsb' 8 8, c.extractLsb' 0 8]) = (body, c) := by
  have cut : (body ++ [c.extractLsb' 8 8, c.extractLsb' 0 8]).length - 2 = body.length := by simp
  rw [splitCrc, cut, List.take_left, List.drop_left]
  exact congrArg (Prod.mk body) (extractLsb'_append_low (m := 8) (n := 8) c)

/-- Bytes sent as data are the bytes received. -/
theorem map_symbolByte_data (bytes : List Byte) : (bytes.map LineSymbol.data).map symbolByte = bytes := by
  rw [List.map_map]
  exact List.map_id' bytes

theorem splitCrc_unit (words : List Word) :
    splitCrc (((unitBytes words).map LineSymbol.data).map symbolByte) = (words.flatMap bytesOfWord, crc16 (words.flatMap bytesOfWord)) := by
  rw [map_symbolByte_data, unitBytes]
  exact splitCrc_append _ _

/-- A unit sent with its CRC passes the CRC check of a port whose units it is long enough for. -/
theorem crcPasses_unit {need : Nat} {words : List Word} (long : need ≤ 4 * words.length + 2) :
    crcPasses need ((unitBytes words).map LineSymbol.data) = true := by
  have clean : ((unitBytes words).map LineSymbol.data).any symbolMars = false := by
    rw [List.any_map]
    exact List.any_eq_false.mpr fun _ _ => nofun
  have length : (((unitBytes words).map LineSymbol.data).map symbolByte).length = 4 * words.length + 2 := by
    rw [map_symbolByte_data, unitBytes, List.length_append, length_flatMap_bytesOfWord]
    rfl
  simp only [crcPasses, clean, length, splitCrc_unit, beq_self_eq_true, decide_eq_true long, Bool.not_false, Bool.and_self]

/-! ### Fields of a word -/

theorem toNat_extractLsb'_ofNat {n start len : Nat} (h : n < 2 ^ 32) :
    ((BitVec.ofNat 32 n).extractLsb' start len).toNat = n / 2 ^ start % 2 ^ len := by
  rw [BitVec.extractLsb'_toNat, BitVec.toNat_ofNat, Nat.mod_eq_of_lt h, Nat.shiftRight_eq_div_pow]

/-! ### Trunk units (R173, R174) -/

/-- A trunk unit of the port's own length, judged by its kind. -/
theorem judgeTrunk_unit {kind port : Nat} {body : List Word} (byte : kind < 256) (port_ : port < 256) (short : body.length < 65536) :
    judgeTrunk ((unitBytes (BitVec.ofNat 32 (kind * 16777216 + port * 65536 + body.length) :: body)).map LineSymbol.data) =
      if kind = 8 then judgeCredit body else if kind = 9 then judgeRequest body else .badForm := by
  have small : kind * 16777216 + port * 65536 + body.length < 2 ^ 32 := by omega
  have length : ((BitVec.ofNat 32 (kind * 16777216 + port * 65536 + body.length)).extractLsb' 0 16).toNat = body.length := by
    rw [toNat_extractLsb'_ofNat small]; omega
  have code : ((BitVec.ofNat 32 (kind * 16777216 + port * 65536 + body.length)).extractLsb' 24 8).toNat = kind := by
    rw [toNat_extractLsb'_ofNat small]; omega
  rw [judgeTrunk, if_pos (crcPasses_unit (by rw [List.length_cons]; omega))]
  simp only [splitCrc_unit, wordsOfBytes_flatMap, length_flatMap_bytesOfWord, length, code]
  exact if_pos (by rw [List.length_cons]; omega)

theorem judgeCredit_word {mode : CreditMode} {count : Nat} (byte : count ≤ 255) (some : mode = .add → 1 ≤ count) :
    judgeCredit [BitVec.ofNat 32 ((if mode = .add then 0 else 1) * 16777216 + count * 65536)] = .credit mode count := by
  cases mode with
  | add =>
    have nonzero := some rfl
    have code : ((BitVec.ofNat 32 (0 * 16777216 + count * 65536)).extractLsb' 24 8).toNat = 0 := by
      rw [toNat_extractLsb'_ofNat (by omega)]; omega
    have added : ((BitVec.ofNat 32 (0 * 16777216 + count * 65536)).extractLsb' 16 8).toNat = count := by
      rw [toNat_extractLsb'_ofNat (by omega)]; omega
    simp only [if_true, judgeCredit, code, added]
    exact if_neg (by omega)
  | set =>
    have code : ((BitVec.ofNat 32 (1 * 16777216 + count * 65536)).extractLsb' 24 8).toNat = 1 := by
      rw [toNat_extractLsb'_ofNat (by omega)]; omega
    have set_ : ((BitVec.ofNat 32 (1 * 16777216 + count * 65536)).extractLsb' 16 8).toNat = count := by
      rw [toNat_extractLsb'_ofNat (by omega)]; omega
    simp only [reduceCtorEq, if_false, judgeCredit, code, set_, if_true, Nat.one_ne_zero]

theorem judgeRequest_words {r : Request} (few : r.args.length ≤ 255) :
    judgeRequest (BitVec.ofNat 32 (r.tag.toNat * 16777216 + r.name.toNat * 65536 + r.args.length * 256) :: r.args) = .request r := by
  have tag := r.tag.isLt
  have name := r.name.isLt
  have small : r.tag.toNat * 16777216 + r.name.toNat * 65536 + r.args.length * 256 < 2 ^ 32 := by omega
  have count : ((BitVec.ofNat 32 (r.tag.toNat * 16777216 + r.name.toNat * 65536 + r.args.length * 256)).extractLsb' 8 8).toNat =
      r.args.length := by
    rw [toNat_extractLsb'_ofNat small]; omega
  have tag_ : (BitVec.ofNat 32 (r.tag.toNat * 16777216 + r.name.toNat * 65536 + r.args.length * 256)).extractLsb' 24 8 = r.tag :=
    BitVec.eq_of_toNat_eq (by rw [toNat_extractLsb'_ofNat small]; omega)
  have name_ : (BitVec.ofNat 32 (r.tag.toNat * 16777216 + r.name.toNat * 65536 + r.args.length * 256)).extractLsb' 16 8 = r.name :=
    BitVec.eq_of_toNat_eq (by rw [toNat_extractLsb'_ofNat small]; omega)
  simp only [judgeRequest, count, tag_, name_, if_true]

/-! ### SAMPLE messages (R172) -/

theorem judgeSample_unit {stream : StreamId} {instant : Instant} {payload : List Word} (some : 1 ≤ payload.length) (few : payload.length ≤ 8) :
    judgeSample ((unitBytes (BitVec.ofNat 32 (stream.val * 67108864 + payload.length * 4194304) :: instant :: payload)).map LineSymbol.data) =
      .good { stream := stream, lengthField := payload.length, instant := instant, payload := payload } := by
  have index := stream.isLt
  have small : stream.val * 67108864 + payload.length * 4194304 < 2 ^ 32 := by omega
  have length : ((BitVec.ofNat 32 (stream.val * 67108864 + payload.length * 4194304)).extractLsb' 22 4).toNat = payload.length := by
    rw [toNat_extractLsb'_ofNat small]; omega
  have named : ((BitVec.ofNat 32 (stream.val * 67108864 + payload.length * 4194304)).extractLsb' 26 6).toFin = stream :=
    Fin.ext (by rw [BitVec.val_toFin, toNat_extractLsb'_ofNat small]; omega)
  rw [judgeSample, if_pos (crcPasses_unit (by simp only [List.length_cons]; omega))]
  simp only [splitCrc_unit, wordsOfBytes_flatMap, length_flatMap_bytesOfWord, length, named]
  exact if_pos ⟨some, few, by simp only [List.length_cons]; omega⟩

/-- Settles O53: the CRC check passes, the words come back from the bytes, and each field of a word holds what was put there. -/
theorem unitsAreReadBack : Obligations.UnitsAreReadBack := by
  refine ⟨fun stream instant payload some few => judgeSample_unit some few, fun port mode count port_ byte some => ?_, fun port r port_ few => ?_⟩
  · have judged := judgeTrunk_unit (kind := 8)
      (body := [BitVec.ofNat 32 ((if mode = .add then 0 else 1) * 16777216 + count * 65536)]) (by omega) port_ (by simp)
    rw [if_pos rfl, judgeCredit_word byte some] at judged
    exact judged
  · have judged := judgeTrunk_unit (kind := 9)
      (body := BitVec.ofNat 32 (r.tag.toNat * 16777216 + r.name.toNat * 65536 + r.args.length * 256) :: r.args) (by omega) port_
      (by rw [List.length_cons]; omega)
    rw [if_neg (by omega), if_pos rfl, judgeRequest_words few, List.length_cons, Nat.add_comm r.args.length 1] at judged
    exact judged

end Sys2Proof.Machine
end


section
/-! The transmit arbiter's choice and the start of a unit (R129, R131, R173). -/

namespace Sys2Proof.Machine

-- One after another, as in the tests: many proofs checked at once would each hold a thread.
set_option Elab.async false

section
variable {s : State} {p : TrunkId} {r : Reply} {replies : List Reply} {head : FrameRecord} {rest : List FrameRecord}

/-! ### The arbiter's choice (R129) -/

theorem State.choose_of_busy (h : (s.trunk p).link ≠ .up ∨ (s.trunk p).tx ≠ none) : s.choose p = s :=
  if_neg (not_and_or.mpr h)

section
variable (up : (s.trunk p).link = .up) (free : (s.trunk p).tx = none)
include up free

theorem State.choose_of_full_debt (full : 8 ≤ (s.trunk p).markDebt) : s.choose p = s.startMark p :=
  (if_pos ⟨up, free⟩).trans (if_pos full)

theorem State.choose_of_reply (few : (s.trunk p).markDebt < 8) (queue : (s.trunk p).replies = r :: replies) :
    s.choose p = s.startReply p r := by
  rw [State.choose, if_pos ⟨up, free⟩, if_neg (Nat.not_le.mpr few), queue]

theorem State.choose_of_no_reply (few : (s.trunk p).markDebt < 8) (queue : (s.trunk p).replies = []) :
    s.choose p = s.chooseFrameOrMark p := by
  rw [State.choose, if_pos ⟨up, free⟩, if_neg (Nat.not_le.mpr few), queue]

end

theorem State.chooseFrameOrMark_of_frame (queue : (s.group p).queue = head :: rest) (waits : head.inTransmission = false)
    (credit : 1 ≤ (s.trunk p).credit) : s.chooseFrameOrMark p = s.startFrame p head rest := by
  rw [State.chooseFrameOrMark, queue]
  exact if_pos ⟨waits, credit⟩

/-- Without a frame to send, a mark that is owed is sent, and else nothing. -/
theorem State.chooseFrameOrMark_of_no_frame
    (none : (s.group p).queue = [] ∨ (s.group p).headSending = true ∨ (s.trunk p).credit = 0) :
    s.chooseFrameOrMark p = if 1 ≤ (s.trunk p).markDebt then s.startMark p else s := by
  cases queue : (s.group p).queue with
  | nil => rw [State.chooseFrameOrMark, queue]
  | cons head rest =>
    rw [State.chooseFrameOrMark, queue]
    refine if_neg ?_
    rintro ⟨waits, credit⟩
    rcases none with empty | sending | spent
    · exact nomatch queue.symm.trans empty
    · rw [Group.headSending, queue] at sending
      exact Bool.false_ne_true (waits.symm.trans sending)
    · omega

/-! ### The bytes of a unit (R131, R134, R173) -/

/-- A flag as a byte of a unit. -/
theorem ofNat_flag (b : Bool) : BitVec.ofNat 8 (if b then 1 else 0) = if b then 1#8 else 0#8 := by cases b <;> rfl

/-- The words of a mark (R127, R173). -/
theorem State.markBody_eq (debt : Nat) :
    s.markBody p debt =
      [(BitVec.ofNat 8 (s.group p).state.code ++ BitVec.ofNat 8 (s.group p).rows.length ++ BitVec.ofNat 8 (s.group p).queue.length
          ++ BitVec.ofNat 8 debt : BitVec 32),
        ((s.trunk p).markSequence ++ BitVec.ofNat 8 (s.trunk p).credit ++ BitVec.ofNat 8 s.log.records.length : BitVec 32),
        ((if (s.group p).cursor.isSome then 1#8 else 0#8) ++ (if (s.group p).templates.armed.isSome then 1#8 else 0#8)
          ++ (if s.log.overflowFlag then 1#8 else 0#8) ++ 0#8 : BitVec 32),
        (s.group p).cursor.getD 0,
        ((s.group p).templates.activeGen ++ ((s.group p).templates.armed.map Armed.generation).getD 0 : BitVec 32),
        ((s.group p).templates.armed.map Armed.switchAt).getD 0,
        (BitVec.ofNat 16 s.freeRows.length ++ BitVec.ofNat 16 s.freeCells.length : BitVec 32)] := by
  simp only [State.markBody, word4, word2, wordOfBytes, ofNat_flag]

/-- The words of a reply (R134, R173). -/
theorem replyWords_eq (p : TrunkId) (r : Reply) :
    replyWords p r = unitWords 3 p
      ((r.tag ++ r.name ++ BitVec.ofNat 8 r.status.code ++ 0#8 : BitVec 32) :: (BitVec.ofNat 16 r.results.length ++ 0#16 : BitVec 32)
        :: r.results) := by
  simp only [replyWords, word4, word2, wordOfBytes, BitVec.ofNat_toNat, BitVec.setWidth_eq]
  rfl

/-- The words of a merged frame (R131, R173). -/
theorem State.frameBody_eq (record : FrameRecord) :
    s.frameBody p record =
      (BitVec.ofNat 8 p.val ++ BitVec.ofNat 8 record.reason.code ++ (if record.holdMiss then 1#8 else 0#8)
          ++ BitVec.ofNat 8 record.entries.length : BitVec 32)
        :: record.instant :: (record.generation ++ 0#16 : BitVec 32) :: record.fillWord :: record.entries.flatMap s.entryWords := by
  simp only [State.frameBody, word4, word2, wordOfBytes, ofNat_flag, FrameRecord.dueCount]
  rfl

/-- The set bits of a word built bit by bit. -/
theorem getLsbD_foldl_bits (slots : List Nat) (w : Word) {i : Nat} (h : i < 32) :
    (slots.foldl (fun w i => w ||| (1#32 <<< i)) w).getLsbD i = true ↔ w.getLsbD i = true ∨ i ∈ slots := by
  have single : ∀ j, (1#32 <<< j).getLsbD i = true ↔ i = j := by
    intro j
    rw [BitVec.getLsbD_shiftLeft]
    simp only [BitVec.getLsbD_one, Bool.and_eq_true, decide_eq_true_eq, Bool.not_eq_true', decide_eq_false_iff_not]
    omega
  induction slots generalizing w with
  | nil => simp
  | cons j js ih =>
    refine (ih (w ||| 1#32 <<< j)).trans ?_
    rw [BitVec.getLsbD_or, Bool.or_eq_true, single, List.mem_cons, or_assoc]

theorem FrameRecord.getLsbD_fillWord (r : FrameRecord) {i : Nat} (h : i < 32) :
    r.fillWord.getLsbD i = true ↔ ∃ e ∈ r.entries, e.slot = i ∧ ∃ kind, e.content = .fill kind := by
  have isFill : ∀ e : Entry, e.isFill = true ↔ ∃ kind, e.content = .fill kind := by
    intro e
    unfold Entry.isFill
    cases e.content <;> simp
  rw [FrameRecord.fillWord, getLsbD_foldl_bits _ _ h, FrameRecord.fillSet]
  have blank : ¬(0 : Word).getLsbD i = true := by simp
  rw [or_iff_right blank]
  simp only [List.mem_map, List.mem_filter, isFill]
  exact exists_congr fun e => by tauto

theorem State.any_missesHold {entries : List Entry} :
    entries.any s.missesHold = true ↔ ∃ e ∈ entries, e.content = .fill .hold ∧ (s.stream e.stream).holdStore = none := by
  simp [State.missesHold]

/-! ### The words of an entry (R31, R131) -/

theorem exactWords_of_length {n : Nat} {ws : List Word} (h : ws.length = n) : exactWords n ws = ws := by
  subst h; exact List.take_left

theorem exactWords_length (n : Nat) (ws : List Word) : (exactWords n ws).length = n := by simp [exactWords]

theorem State.length_payload (c : CellId) {l : Nat} (few : l ≤ 8) : (s.payload c l).length = l := by
  simp [State.payload, few]

variable {e : Entry}

theorem State.entryWords_of_real {c : CellId} (real : e.content = .real c) (few : (s.stream e.stream).length ≤ 8) :
    s.entryWords e = (s.cell c).toList.take (s.stream e.stream).length := by
  simp only [State.entryWords, real]
  exact exactWords_of_length (State.length_payload c few)

theorem State.entryWords_of_zero (zero : e.content = .fill .zero) :
    s.entryWords e = List.replicate (s.stream e.stream).length 0 := by simp only [State.entryWords, zero]

theorem State.entryWords_of_const (const : e.content = .fill .const) :
    s.entryWords e = List.replicate (s.stream e.stream).length (s.stream e.stream).fillConstant := by simp only [State.entryWords, const]

theorem State.entryWords_of_hold (hold : e.content = .fill .hold)
    (stored : ∀ ws, (s.stream e.stream).holdStore = some ws → ws.length = (s.stream e.stream).length) :
    s.entryWords e = (s.stream e.stream).holdStore.getD (List.replicate (s.stream e.stream).length 0) := by
  simp only [State.entryWords, hold]
  cases store : (s.stream e.stream).holdStore with
  | none => simp [exactWords]
  | some ws => exact exactWords_of_length (stored ws store)

theorem State.length_entryWords : (s.entryWords e).length = (s.stream e.stream).length := by
  unfold State.entryWords
  dsimp only
  split
  · exact exactWords_length _ _
  · exact List.length_replicate
  · exact List.length_replicate
  · exact exactWords_length _ _

end

/-- Settles O33: the arbiter's choices in order, the bytes of each unit by the layouts, and an entry's words by its content. -/
theorem transmitArbiterAndStarts : Obligations.TransmitArbiterAndStarts := by
  refine ⟨fun s p => ⟨State.choose_of_busy, fun up free => ⟨State.choose_of_full_debt up free, fun few =>
    ⟨fun r rest => State.choose_of_reply up free few, fun noReply => ?choice⟩⟩⟩, ?starts, ?words⟩
  case choice =>
    rw [State.choose_of_no_reply up free few noReply]
    refine ⟨fun head rest => State.chooseFrameOrMark_of_frame, fun none => ?_⟩
    rw [State.chooseFrameOrMark_of_no_frame none]
    exact ⟨fun owed => if_pos owed, fun clear => if_neg (by omega)⟩
  case starts =>
    intro s p x g armed header bit
    refine ⟨?_, fun r => ?_, fun head rest => ⟨head.entries.any s.missesHold, head.fillWord, ?_,
      State.any_missesHold, fun i h => head.getLsbD_fillWord h⟩⟩
    · rw [State.startMark, State.markBody_eq]
      exact s.modTrunk_congr p _ _ rfl
    · rw [State.startReply, replyWords_eq]
      rfl
    · rw [State.startFrame, State.frameBody_eq]
      rfl
  case words =>
    intro s e x few stored
    exact ⟨State.length_entryWords, fun c real => State.entryWords_of_real real few, State.entryWords_of_zero, State.entryWords_of_const,
      fun hold => State.entryWords_of_hold hold stored⟩

end Sys2Proof.Machine
end
